-- ==== Sys2Proof/Word.lean ====
section
/-! DEFINITION. The plain words and tables the whole model is written with: bytes, fixed-size tables
that reduce in the kernel, and the two roundings of section 4.2 of the scope file. -/

namespace Sys2Proof

/-- One byte, as sent on the supervisor port, on the hall bus and to the NVM. -/
abbrev Byte := BitVec 8

/-- A fixed number of like records, numbered from 0 (ports, slots, bays, lines, lamps). -/
abbrev Table (α : Type) (n : Nat) := Vector α n

/-- A table whose every entry is `x`. -/
def Table.fill (n : Nat) (x : α) : Table α n := ⟨⟨List.replicate n x⟩, by simp⟩

/-- Entry `i`; a number past the end reads as the default record. -/
def Table.get [Inhabited α] (t : Table α n) (i : Nat) : α := t.toList.getD i default

/-- The table with entry `i` replaced; a number past the end changes nothing. -/
def Table.put (t : Table α n) (i : Nat) (x : α) : Table α n := ⟨⟨t.toList.set i x⟩, by simp⟩

/-- The table with every entry rewritten from its number and its former value. -/
def Table.mapIdx (f : Nat → α → β) (t : Table α n) : Table β n :=
  ⟨⟨t.toList.zipIdx.map (fun p => f p.2 p.1)⟩, by simp⟩

/-- The table's entries with their numbers, lowest number first. -/
def Table.entries (t : Table α n) : List (Nat × α) := t.toList.zipIdx.map (fun p => (p.2, p.1))

/-- ceil(x) of section 4.2 for a quotient of naturals. -/
def ceilDiv (a b : Nat) : Nat := (a + b - 1) / b

/-- The all-ones stamp: release stamp none, and the detail that marks "none" (scope, section 4.1). -/
def stampNone : Nat := 4294967295

/-- The largest stamp the calendar count can hold (R1). -/
def stampMax : Nat := 4294967294

/-- Seconds in a day. -/
def daySeconds : Nat := 86400

end Sys2Proof
end

