-- ==== Sys2Proof/Config.lean ====
section
/-! DEFINITION. What one part is configured with (section 11.6 of the spec) and the values no rule of the
spec fixes. The constants with no body are FREE: nothing in Lean can evaluate one of them. -/

namespace Sys2Proof

/-- R163: which pin level of a fault line is active. -/
inductive Polarity where
  | activeHigh | activeLow
  deriving DecidableEq, Repr, Inhabited

/-- R165: what declares a fault. -/
inductive Detect where
  | level | edge
  deriving DecidableEq, Repr, Inhabited

/-- R168, R169: how a latched flag is cleared. -/
inductive ClearMode where
  | auto | manualRearm | manualLevel
  deriving DecidableEq, Repr, Inhabited

/-- R163: one fault line's configuration. The four Bools are its action set. -/
structure LineConfig where
  polarity : Polarity
  detect : Detect
  mute : Bool
  holdMotion : Bool
  lockout : Bool
  report : Bool
  clearMode : ClearMode
  deriving DecidableEq, Repr, Inhabited

/-- R185: what a lamp shows. -/
inductive LampSource where
  | onAir | changeover | portHeld | foldback | lockout | anyFaultLine | timeNotLocked
  | busFault | tableMismatch | always | never
  deriving DecidableEq, Repr, Inhabited

/-- R185: the blink option of a lamp. -/
inductive Blink where
  | steady | slow | fast
  deriving DecidableEq, Repr, Inhabited

/-- R185: the setting of one lamp. -/
structure LampSetting where
  source : LampSource
  blink : Blink
  invert : Bool
  deriving DecidableEq, Repr, Inhabited

/-- One row of the antenna table (bytes 48 to 271 of the configuration block). -/
structure AntennaRow where
  curtain : Nat
  fmin : Nat
  fmax : Nat
  maxPower : Nat
  deriving DecidableEq, Repr, Inhabited

/-- The configuration in use: the parameters, the four fault lines, the four lamps, the antenna table
(none where the table is empty, R187) and the table signature (R186). -/
structure Params where
  rating : Nat
  fLo : Nat
  fHi : Nat
  tMute : Nat
  tGuard : Nat
  tTravel : Nat
  tSettle : Nat
  tTune : Nat
  tStep : Nat
  tRfoff : Nat
  claimMargin : Nat
  lateTolerance : Nat
  minAir : Nat
  vMin : Nat
  kCal : Nat
  sW : Nat
  sT : Nat
  fMin : Nat
  restartHold : Nat
  tripWindow : Nat
  proofTime : Nat
  lines : Table LineConfig 4
  lamps : Table LampSetting 4
  antenna : Option (Table AntennaRow 32)
  signature : Nat
  deriving DecidableEq, Repr

/-- R163: the built-in default of a fault line. -/
def LineConfig.builtIn : LineConfig :=
  { polarity := .activeLow, detect := .level, mute := true, holdMotion := false, lockout := false,
    report := true, clearMode := .manualLevel }

/-- R187: the four default lamps. -/
def LampSetting.builtIn : Table LampSetting 4 :=
  ⟨#[⟨.onAir, .steady, false⟩, ⟨.changeover, .slow, false⟩, ⟨.lockout, .steady, false⟩,
     ⟨.always, .fast, false⟩], rfl⟩

/-- The table signature of an empty antenna table: the check of R62 over 224 bytes of value 0 (R187).
A test shows that the model's own check gives this number. -/
def emptySignature : Nat := 46877

/-- R187: the values in use on the outcome CONFIG_FAULT. DESIGN CHOICE (entry 3): they also stand
between a reset and the end of its configuration load, where the spec names no values. -/
def Params.builtIn : Params :=
  { rating := 2500, fLo := 3900, fHi := 26100, tMute := 500, tGuard := 200, tTravel := 3000,
    tSettle := 100, tTune := 12000, tStep := 200, tRfoff := 2000, claimMargin := 30,
    lateTolerance := 120, minAir := 60, vMin := 64, kCal := 375, sW := 150, sT := 200, fMin := 250,
    restartHold := 5, tripWindow := 60, proofTime := 60,
    lines := Table.fill 4 LineConfig.builtIn, lamps := LampSetting.builtIn, antenna := none,
    signature := emptySignature }

/-- FREE (R188): whether a byte of an NVM write that was cut, or that the NVM never acknowledged,
took its new value. The argument is the model's counter of free values. -/
opaque Config.byteTaken : Nat → Bool

/-- FREE (R21): how long a check of the pending bank runs, in ms; used only cut down to 50. -/
opaque Config.checkMs : Nat → Nat

/-- FREE (R182): the code of DONE among the start-sequence steps 1 to 5. -/
opaque Config.stepDoneCode : Nat

/-- FREE (R183): the code of the empty mark's kind NONE, which the table of kinds does not list. -/
opaque Config.emptyKindCode : Nat

/-- FREE (R183): the stamp of the empty mark; the argument is the oscillator time of the read. -/
opaque Config.emptyStamp : Nat → Nat

/-- FREE (R181): the code in the place of a result while the response holds none. -/
opaque Config.noResultCode : Nat

/-- FREE (R98): the code of SELF in the place of a presence. -/
opaque Config.selfCode : Nat

/-- FREE (R98): the last-frame count shown in the bay's own record, at an oscillator time. -/
opaque Config.selfLastFrame : Nat → Nat

end Sys2Proof
end

