-- ==== Sys2Proof/Syntax.lean ====
section
/-! DEFINITION. The commands the block takes, one constructor per row of spec/opcode_table.json, with the
records they carry. A row is a host command of section 11.2, a frame heard on the hall bus, a change
of an input, or the instant at which one of the part's own timers or counts is reached. -/

namespace Sys2Proof

/-- The fields an entry has in common in a bank slot and in the override list (section 2.1). -/
structure EntryBody where
  startMin : Nat
  duration : Nat
  freq : Nat
  power : Nat
  cls : Nat
  ports : List Nat
  programme : Nat
  deriving DecidableEq, Repr, Inhabited

/-- READ_ENTRY names a bank slot by role and slot number, or an override by tag (R20). -/
inductive EntryRef where
  | active (slot : Nat)
  | pending (slot : Nat)
  | override (tag : Nat)
  deriving DecidableEq, Repr, Inhabited

/-- ERASE_ENTRY names one slot or ALL (R19). -/
inductive EraseRef where
  | slot (slot : Nat)
  | all
  deriving DecidableEq, Repr, Inhabited

/-- COMMIT_BANK carries a switch stamp or NOW (R21). -/
inductive CommitTarget where
  | stamp (stamp : Nat)
  | now
  deriving DecidableEq, Repr, Inhabited

/-- The body of a PRESENCE (section 4.2). `held` is 255 for none; `release` is the all-ones stamp for none. -/
structure PresenceBody where
  rollCall : Bool
  restarted : Bool
  configFault : Bool
  reason : Nat
  signature : Nat
  held : Nat
  release : Nat
  maint : List Nat
  suspects : List (Nat × Nat)
  deriving DecidableEq, Repr, Inhabited

/-- The seven kinds of hall frame with their body fields (section 4.2). Stamps are carried as sent. -/
inductive Frame where
  | object (port held reason release : Nat)
  | release (port forBay : Nat)
  | hold (port cls release : Nat)
  | intent (port cls start : Nat)
  | suspect (port cause : Nat)
  | clear (port : Nat)
  | presence (body : PresenceBody)
  deriving DecidableEq, Repr, Inhabited

/-- One command. Host commands carry their arguments as numbers of any size, so that an argument out of
its range can be refused as its rule says; the frames carry the sender of the header and the body. -/
inductive Instr where
  -- host commands 1 to 36 (section 11.2); MANUAL_RF and MANUAL_EXIT are two rows each
  | setTime (date second : Nat)
  | readTime
  | writeEntry (slot : Nat) (days : Byte) (body : EntryBody)
  | readEntry (which : EntryRef)
  | eraseEntry (which : EraseRef)
  | copyActive
  | commitBank (target : CommitTarget)
  | disarmBank
  | readBankState
  | putOverride (date : Nat) (body : EntryBody)
  | dropOverride (tag : Nat)
  | readPlan
  | readMap
  | readPeers
  | readProtection
  | maintHold (port : Nat)
  | maintRelease (port : Nat)
  | forceRelease (port : Nat)
  | clearSuspect (port : Nat)
  | clearLockout
  | clearFaultLine (line : Nat)
  | clearDefect (port : Nat)
  | manualEnter
  | manualPort (port cls : Nat)
  | manualTune (khz : Nat)
  | manualPower (pu : Nat)
  | manualRfOn
  | manualRfOff
  | manualExitNow
  | manualExitAtNext
  | readStatus
  | readReport
  | clearFlags (flags : Byte)
  | setEnables (enables : Byte)
  | setLamp (lamp source blink invert : Nat)
  | restart
  | nvmWrite (address : Nat) (data : List Byte)
  | nvmRead (address count : Nat)
  -- what a transaction can be beside a command of the table (R181)
  | unknownCommand (number : Nat) (args : List Byte)
  | transactionCutShort
  -- the NVM (R188)
  | nvmCommandComplete
  | nvmAckTimeout
  -- resets and the start sequence (R189, R190)
  | powerOn
  | resetPin
  | supplyLow
  | configLoadEnd (acknowledged : Bool)
  | startUpReread
  | rollCallWindowEnd
  -- the time unit
  | internalSecond
  | ppsEdge
  | silenceTimerExpiry
  -- the schedule store
  | bankCheckEnd
  | switchRoles
  | overrideExpiry
  -- the planner
  | claimTime
  | changeoverStart
  | giveUpPoint
  | segmentEnd
  | noPortRetry
  | droppedRescan
  | maintClaimRetry
  | manualIntentReoffer
  -- the hall bus link
  | refusedFrameReoffer
  | parkedEntryReady
  | lineIdle
  | attemptSpoiled (inTailGuard : Bool)
  | frameSpoiled (bits : List Bool) (guardDominant : Bool)
  | blockedTimerExpiry
  | contentionWithdrawal
  -- frames taken (the echo of an own frame too, R66)
  | intentReceived (sender port cls start : Nat)
  | objectReceived (sender port held reason release : Nat)
  | holdReceived (sender port cls release : Nat)
  | releaseReceived (sender port forBay : Nat)
  | suspectReceived (sender port cause : Nat)
  | clearReceived (sender port : Nat)
  | presenceReceived (sender : Nat) (body : PresenceBody)
  -- the claim unit
  | objectionWindowExpiry (port : Nat)
  | intentLapse
  | peerSilence
  | presenceInterval
  | conflictTimeout
  -- the matrix row
  | contactReadingChange (port : Fin 32) (openMade closedMade : Bool)
  | travelTimerExpiry
  | settleTimerExpiry
  -- the changeover sequencer
  | muteStepTimer
  | guardTimerExpiry
  | clearanceWaitExpiry
  | muteFail
  | rfPresentFall
  | rfPresentRise
  | tuneDone
  | tuneTimerExpiry
  | tuneLoss
  | rampStep
  | restartHoldEnd
  -- the protection unit
  | couplerSample (vf vr : BitVec 12)
  | recoveryTimerExpiry
  | capTimerExpiry
  | arc (staysActive : Bool)
  | tripAgeing
  | proofRunComplete
  -- the fault lines
  | faultLineLevelChange (line : Fin 4) (pinHigh : Bool)
  deriving DecidableEq, Repr

end Sys2Proof
end

