-- ==== Sys2Proof/Machine/State.lean ====
section
/-! DEFINITION. Everything the part holds, block by block in the order of the chapters, as plain data; the
reasons a step can stop; and the part right after reset. Timers in ms are held as the oscillator time at
which they expire, timers in s as the elapsed-second count at which they are reached. -/

namespace Sys2Proof.Machine

/-- The reasons the part stops. There is none: no rule of the spec stops the part, and every command of the
table has its effect or leaves the state as it is. A closed type with no constructor (safe). -/
inductive Fault : Type where
  deriving DecidableEq, Repr

/-- The reasons a command has no meaning. -/
inductive Refusal where
  /-- Raised by `exec` alone, for a row of the table without a meaning. No row is without one (safe). -/
  | notModelled (mnemonic : String)
  deriving DecidableEq, Repr

/-! ## Time unit (chapter 1) -/

/-- R5 to R7: time quality. -/
inductive Quality where
  | unset | locked | holdover
  deriving DecidableEq, Repr, Inhabited

/-- The time unit. `osc` is the oscillator's ms count, on which every ms timer of the part is timed. `elapsed` is
the number of seconds counted; the elapsed-second count of R4 is its low 32 bits (`elapsedCount`), and a
duration in seconds is taken on `elapsed` itself, so that none is cut where the count returns to 0 (entry 18). -/
structure TimeUnit where
  osc : Nat
  phaseZero : Nat
  day : Nat
  second : Nat
  elapsed : Nat
  quality : Quality
  holdoverSince : Nat
  lastEdge : Option Nat
  lastEdgeStamp : Nat
  run : Nat
  silence : Option Nat
  lastCounted : Option Nat
  pendingSet : Option (Nat × Nat)
  deriving DecidableEq, Repr

/-! ## Schedule store (chapter 2) -/

/-- The eligibility mark of one listed port (section 2.1). -/
inductive Eligibility where
  | unchecked | eligible | ineligible
  deriving DecidableEq, Repr, Inhabited

/-- A used bank slot. -/
structure BankEntry where
  days : Byte
  body : EntryBody
  marks : List Eligibility
  deriving DecidableEq, Repr, Inhabited

/-- A bank slot: none while it is unused. -/
abbrev BankSlot := Option BankEntry

/-- One of the two bank stores. -/
abbrev Bank := Table BankSlot 96

/-- A held override. -/
structure Override where
  tag : Nat
  date : Nat
  body : EntryBody
  marks : List Eligibility
  deriving DecidableEq, Repr, Inhabited

/-- The state of the pending bank (section 2.2). -/
inductive PendingState where
  | editable | checking | armed
  deriving DecidableEq, Repr, Inhabited

/-- R24, R38: the last check result with its slots. -/
inductive CheckResult where
  | none
  | accepted
  | overlap (a b : Nat)
  | noEligiblePort (slot : Nat)
  | notDone
  deriving DecidableEq, Repr, Inhabited

/-- The schedule store. `oneActive` says that store 1 has the role ACTIVE. -/
structure ScheduleStore where
  bank0 : Bank
  bank1 : Bank
  oneActive : Bool
  pendingState : PendingState
  switchStamp : Option Nat
  commitTarget : Option CommitTarget
  lastCheck : CheckResult
  checkEnd : Option Nat
  overrides : List Override
  deriving DecidableEq, Repr

/-! ## Planner (chapter 3) -/

/-- R39: the source of a segment, or MANUAL (R172). -/
inductive Source where
  | entry (number day : Nat)
  | manual
  deriving DecidableEq, Repr, Inhabited

/-- R43: changeover kind. -/
inductive Kind where
  | continuation | retune | full | first
  deriving DecidableEq, Repr, Inhabited

/-- R43: the path a FIRST changeover follows. -/
inductive Path where
  | full | retune | continuation
  deriving DecidableEq, Repr, Inhabited

/-- The states of a claim record; `unclaimed` is the spec's NONE. -/
inductive ClaimState where
  | unclaimed | queued | inWindow | won | waitRelease | noPort
  deriving DecidableEq, Repr, Inhabited

/-- A claim: its state, whether its claim time has been acted on, the objection window's end while the
timer runs, whether its HOLD is on its way, whether a refreshed HOLD was asked for it, and the elapsed
counts at which a scan or a NO_PORT retry is due. -/
structure Claim where
  state : ClaimState
  begun : Bool
  window : Option Nat
  holdOffered : Bool
  refreshAsked : Bool
  rescanAt : Option Nat
  retryAt : Option Nat
  noPortFiled : Bool
  deriving DecidableEq, Repr, Inhabited

/-- A claim that has not been begun. -/
def Claim.fresh : Claim :=
  { state := .unclaimed, begun := false, window := none, holdOffered := false, refreshAsked := false,
    rescanAt := none, retryAt := none, noPortFiled := false }

/-- The next assignment record (section 3.2). `bank` is the store the occurrence was read from (2 for an
override), `occEnd` the occurrence's own end and `heldOver` the hold-over of R55. In `ports` the Bool is
the scan mark DROPPED; `deferred` says that the claim waits for the bay to become IDLE (R47). -/
structure Assignment where
  source : Source
  bank : Nat
  occEnd : Nat
  heldOver : Bool
  segStart : Nat
  segEnd : Option Nat
  freq : Option Nat
  power : Nat
  cls : Nat
  programme : Nat
  ports : List (Nat × Bool)
  chosen : Option Nat
  keepsPort : Bool
  waitPort : Option Nat
  kind : Kind
  path : Path
  chained : Bool
  lead : Nat
  changeoverStart : Nat
  claimTime : Nat
  giveUp : Nat
  release : Option Nat
  claim : Claim
  deferred : Bool := false
  deriving DecidableEq, Repr

/-- The current assignment record (R120). Its left port and tune attempt stand in `Sequencer`, because the
end-of-segment path goes on using them with no current assignment. -/
structure Current extends Assignment where
  port : Option Nat
  onAirStamp : Option Nat
  onAirCount : Option Nat
  deriving DecidableEq, Repr

/-- The planner: the planning floor (R41) and the next assignment record. -/
structure Planner where
  floor : Nat
  next : Option Assignment
  deriving DecidableEq, Repr

/-! ## Hall bus link (chapter 4) -/

/-- Section 4.4: the states of the line engine. -/
inductive Engine where
  | sync | idle | contending | sending | receiving | spoiling
  deriving DecidableEq, Repr, Inhabited

/-- One entry of the transmit queue; READY while `parkedUntil` is none. `refresh` tells a refreshed HOLD
(R93) from the HOLD of a claim (R89), and `asked` the refreshed HOLD that a claim in NONE waits for (R48). -/
structure TxEntry where
  frame : Frame
  parkedUntil : Option Nat
  withdrawn : Bool
  refresh : Bool
  asked : Bool := false
  deriving DecidableEq, Repr, Inhabited

/-- R70: the answers to a withdrawal. -/
inductive Withdrawal where
  | removed | sent | notFound
  deriving DecidableEq, Repr, Inhabited

/-- The hall bus link. `attempt` is the frame of the attempt in flight, `lineIdle` that the line has stood
idle since it was last disturbed. `departed` are the latest INTENT and HOLD frames that have left the queue
of themselves, newest first, each with whether it was sent whole; `answer` is the answer to the latest
withdrawal, none while the end of an attempt has still to decide it (R70, entry 44). -/
structure Link where
  engine : Engine
  lineIdle : Bool
  queue : List TxEntry
  resend : Nat
  attempt : Option Frame
  blocked : Option Nat
  busFault : Bool
  drops : Nat
  departed : List (Frame × Bool) := []
  answer : Option Withdrawal := none
  deriving DecidableEq, Repr

/-! ## Claim unit (chapter 5) -/

/-- The mark of a port record with what goes with it (R75). `lapse` is the elapsed count of R86. -/
inductive Mark where
  | free
  | intended (owner cls start lapse : Nat)
  | held (owner cls : Nat) (release : Option Nat)
  | maint (owner cls : Nat) (release : Option Nat)
  deriving DecidableEq, Repr, Inhabited

/-- R78: the standing of an own mark. -/
inductive Standing where
  | confirmed | unconfirmed
  deriving DecidableEq, Repr, Inhabited

/-- R75: the kind of the latest own echo of a HOLD or RELEASE. -/
inductive OwnEcho where
  | hold | release | none
  deriving DecidableEq, Repr, Inhabited

/-- One record of the occupancy map. `suspect` is the reporter and the cause. -/
structure PortRecord where
  mark : Mark
  suspect : Option (Nat × Nat)
  standing : Option Standing
  lastEcho : OwnEcho
  deriving DecidableEq, Repr, Inhabited

/-- R98: the presence of a peer. -/
inductive Presence where
  | absent | present | silent
  deriving DecidableEq, Repr, Inhabited

/-- One record of the peer table (R98); `body` is what its last PRESENCE said. -/
structure PeerRecord where
  presence : Presence
  lastFrame : Nat
  body : Option PresenceBody
  mismatch : Bool
  deriving DecidableEq, Repr, Inhabited

/-- R95: the state of an own maintenance hold. -/
inductive MaintState where
  | claiming | waiting | held
  deriving DecidableEq, Repr, Inhabited

/-- One entry of the own maintenance list; `releasing` while its RELEASE is on its way (R97). -/
structure MaintEntry where
  port : Nat
  start : Nat
  state : MaintState
  claim : Claim
  releasing : Bool
  deriving DecidableEq, Repr, Inhabited

/-- The manual claim of section 10.1: its port, class, start stamp and state. -/
structure ManualClaim where
  port : Nat
  cls : Nat
  start : Nat
  claim : Claim
  deriving DecidableEq, Repr, Inhabited

/-- One conflict of R106: the bay, the port it stated and the own port in conflict. -/
structure Conflict where
  bay : Nat
  stated : Nat
  own : Nat
  deriving DecidableEq, Repr, Inhabited

/-- R69: a frame refused at a full queue, to be offered again at the elapsed count `due`. -/
structure RefusedFrame where
  frame : Frame
  refresh : Bool
  due : Nat
  asked : Bool := false
  deriving DecidableEq, Repr, Inhabited

/-- The claim unit. `suspects` is the own suspect list (port, cause), oldest first; `yielding` the ports
being given up under R105; `lastPresence` the elapsed count of the last PRESENCE offer. -/
structure ClaimUnit where
  map : Table PortRecord 32
  peers : Table PeerRecord 16
  maint : List MaintEntry
  suspects : List (Nat × Nat)
  manualClaim : Option ManualClaim
  conflicts : List Conflict
  conflictSince : Nat
  refused : List RefusedFrame
  lastPresence : Nat
  yielding : List Nat
  deriving DecidableEq, Repr

/-! ## Matrix row (chapter 6) -/

/-- R108: a contact reading, in the order of the report coding. -/
inductive Reading where
  | atOpen | atClosed | travel | conflict
  deriving DecidableEq, Repr, Inhabited

/-- R109: the cause of a defect flag. -/
inductive DefectCause where
  | closeFail | openFail | stray | start
  deriving DecidableEq, Repr, Inhabited

/-- What the row driver holds per crosspoint; `lastSample` is the latest sample of its contacts (R108). -/
structure Crosspoint where
  reading : Reading
  rest : Reading
  settled : Bool
  defect : Option DefectCause
  lastSample : Option Reading := none
  deriving DecidableEq, Repr, Inhabited

/-- The row's motion state with its subject crosspoint. -/
inductive Motion where
  | still
  | opening (port : Nat)
  | closing (port : Nat)
  | settling (port : Nat)
  deriving DecidableEq, Repr, Inhabited

/-- The two commands of the sequencer to the row driver (section 6.3). -/
inductive RowCommand where
  | openPort (port : Nat)
  | closePort (port : Nat)
  deriving DecidableEq, Repr, Inhabited

/-- The row driver. `recoveryOf` is the crosspoint whose recovery open waits to start, `recoveryMark` the
recovery mark, `firstReadings` the readings of a start-up read whose re-read is awaited, and `watching`
that stray detection has begun (R116). `barred` says that a stray change has overlapped the pulse in travel, so
that no recovery open follows it (R116), and `sampleDue` is the oscillator time of the next contact sample. -/
structure RowDriver where
  points : Table Crosspoint 32
  motion : Motion
  recoveryMark : Bool
  recoveryOf : Option Nat
  waiting : Option RowCommand
  travelTimer : Option Nat
  settleTimer : Option Nat
  firstReadings : Option (Table Reading 32)
  watching : Bool
  barred : Bool := false
  sampleDue : Nat := 5
  deriving DecidableEq, Repr

/-! ## Changeover sequencer and manual control (chapters 7 and 10) -/

/-- R121: the twelve sequencer states. -/
inductive SeqState where
  | idle | heldIdle | muting | guarding | reposition | ramping | onAir | restartHold | paused
  | locked | matrixFault | configFault
  deriving DecidableEq, Repr, Inhabited

/-- R121: the row sub-state. -/
inductive RowSub where
  | still | opening | waitPort | closing | settling
  deriving DecidableEq, Repr, Inhabited

/-- R121: the tune sub-state. -/
inductive TuneSub where
  | idle | tuning | tuned | failed
  deriving DecidableEq, Repr, Inhabited

/-- The changeover sequencer with its outputs: the RF permit, the tune-request line, the programme-select
lines and the frequency last sent to the transmitter. `watch` is the start of a running RF-off watch,
`watchOnRise` that a rise of RF-present started it, `rfOff` the RF-off instant of the latest watch. -/
structure Sequencer where
  state : SeqState
  rowSub : RowSub
  tuneSub : TuneSub
  clearance : Bool
  permit : Bool
  current : Option Current
  leftPort : Option Nat
  tuneAttempt : Nat
  tuneRequest : Bool
  tuneFreq : Option Nat
  tuneTimer : Option Nat
  muteFrom : Nat
  muteDemand : Nat
  muteStep : Nat
  guardTimer : Option Nat
  watch : Option Nat
  watchOnRise : Bool
  rfOff : Option Nat
  clearWait : Option Nat
  stepCount : Nat
  stepTimer : Option Nat
  holdEnd : Option Nat
  programme : Nat
  deriving DecidableEq, Repr

/-- The manual flag and the manual settings (section 10.1). A power of none is the rating. `moveWaits` says that
the port was won in LOCKED and its motion waits for the resume (R175), and `atNext` that the manual assignment runs
on to the next segment's changeover (R180). -/
structure Manual where
  flag : Bool
  port : Option Nat
  cls : Nat
  freq : Option Nat
  power : Option Nat
  programme : Nat
  rfOn : Bool
  tuned : Option Nat
  moveWaits : Bool := false
  atNext : Bool := false
  deriving DecidableEq, Repr

/-! ## Protection unit (chapter 8) -/

/-- The results kept of the latest coupler sample (R145). -/
structure Sample where
  counted : Bool
  vf : Nat
  vr : Nat
  rho : Nat
  s : Nat
  f : Nat
  pf : Nat
  deriving DecidableEq, Repr, Inhabited

/-- R152: the state of the restart cap. -/
inductive CapState where
  | full | reduced | recovering
  deriving DecidableEq, Repr, Inhabited

/-- R155: trip causes, in the order of the report coding. -/
inductive TripCause where
  | vswr | arc | txDrop
  deriving DecidableEq, Repr, Inhabited

/-- One entry of the trip list. -/
structure Trip where
  elapsed : Nat
  stamp : Nat
  cause : TripCause
  port : Option Nat
  deriving DecidableEq, Repr, Inhabited

/-- R157: lockout causes with what each carries. -/
inductive LockoutCause where
  | trips (cause : TripCause)
  | muteFail
  | faultLine (line : Nat)
  | conflict
  deriving DecidableEq, Repr, Inhabited

/-- The lockout record. -/
structure Lockout where
  cause : LockoutCause
  port : Option Nat
  stamp : Nat
  deriving DecidableEq, Repr, Inhabited

/-- The last lockout cleared, of which the cause and the stamp are kept (R159). -/
structure LastLockout where
  cause : LockoutCause
  stamp : Nat
  deriving DecidableEq, Repr, Inhabited

/-- The protection unit (section 8.1). `proof` is the port and the elapsed count at the run's start. -/
structure Protection where
  target : Nat
  step : Nat
  last : Option Sample
  pairFlag : Bool
  foldback : Bool
  limit : Nat
  ceiling : Option Nat
  recoveryTimer : Option Nat
  lowest : Nat
  capState : CapState
  cap : Nat
  capTimer : Option Nat
  trips : List Trip
  lockout : Option Lockout
  lastLockout : Option LastLockout
  txDropArmed : Bool
  proof : Option (Nat × Nat)
  demand : Nat
  sampleDue : Option Nat
  deriving DecidableEq, Repr

/-! ## Fault lines (chapter 9) -/

/-- R164: the filtered level. -/
inductive Filtered where
  | unknown | active | inactive
  deriving DecidableEq, Repr, Inhabited

/-- What the fault-line unit holds per line. `lastPin` is the pin at the latest sample (the last sample is
its level after polarity); `waitInactive` the rearm condition WAIT_INACTIVE. -/
structure FaultLine where
  lastPin : Option Bool
  filtered : Filtered
  latched : Bool
  waitInactive : Bool
  count : Nat
  deriving DecidableEq, Repr, Inhabited

/-- The fault-line unit; `sampleDue` is the oscillator time of its next sample. -/
structure FaultLines where
  line : Table FaultLine 4
  sampleDue : Nat
  deriving DecidableEq, Repr

/-! ## Supervisor port (chapter 11) -/

/-- The command results of R181, in their order. -/
inductive Result where
  | done | busy | badArgument | wrongState | armed | full | notFound | stillActive | notStale
  | overlap | pending
  deriving DecidableEq, Repr, Inhabited

/-- The report kinds of R183, in the order of its table; `none` is the empty mark. -/
inductive ReportKind where
  | restarted | timeSet | timeHoldover | timeLocked | bankCheckDone | bankSwitched | entryOnAir
  | entryLate | entryEnded | entryMissed | noPort | claimWon | claimLost | claimWait | tuneFail
  | crosspointFault | trip | lockout | foldbackOn | foldbackOff | faultLine | doubleHold | yielded
  | peerSilent | peerBack | tableMismatch | suspectHeard | clearHeard | busFault | none
  deriving DecidableEq, Repr, Inhabited

/-- A report record. -/
structure Report where
  stamp : Nat
  kind : ReportKind
  subject : Nat
  detail : Nat
  deriving DecidableEq, Repr, Inhabited

/-- The response the port holds (R181); `result` is none until the first command after a reset. -/
structure Response where
  sequence : Nat
  number : Nat
  result : Option Result
  data : List Byte
  deriving DecidableEq, Repr, Inhabited

/-- The four sticky flags (R184). -/
structure Sticky where
  reportLost : Bool
  busFaultSeen : Bool
  tripSeen : Bool
  configFaultSeen : Bool
  deriving DecidableEq, Repr, Inhabited

/-- The five enables (R184). -/
structure Enables where
  reportLost : Bool
  busFaultSeen : Bool
  tripSeen : Bool
  configFaultSeen : Bool
  queue : Bool
  deriving DecidableEq, Repr, Inhabited

/-- R188: a pending NVM command: the bytes of a write or the count of a read, its own sequence count and the
oscillator time at which the acknowledgement is overdue. -/
structure NvmCommand where
  address : Nat
  write : Option (List Byte)
  count : Nat
  sequence : Nat
  deadline : Nat
  deriving DecidableEq, Repr, Inhabited

/-- The supervisor port. `blinkZero` is the oscillator time at the end of the last reset (R185). -/
structure Supervisor where
  sequence : Nat
  response : Response
  reports : List Report
  sticky : Sticky
  enables : Enables
  lamps : Table LampSetting 4
  blinkZero : Nat
  nvmPending : Option NvmCommand
  deriving DecidableEq, Repr

/-! ## Start-up, NVM and inputs -/

/-- R189: the reset causes, in the order of their codes. -/
inductive ResetCause where
  | powerOn | resetPin | supplyLow | hostRestart
  deriving DecidableEq, Repr, Inhabited

/-- R186: the configuration outcome. -/
inductive LoadOutcome where
  | configFault | loaded | clamped
  deriving DecidableEq, Repr, Inhabited

/-- R190: where the start sequence stands. Steps 1 and 4 begin and end at one instant. -/
inductive StartStep where
  | load | startUpRead | rollCall | done
  deriving DecidableEq, Repr, Inhabited

/-- Start-up: the configuration in use, the configuration outcome (none until the load ends), the reset
reason record, the bay number, the step and the two waits of the start sequence. -/
structure StartUp where
  params : Params
  outcome : Option LoadOutcome
  reason : ResetCause
  bay : Nat
  step : StartStep
  rereadAt : Option Nat
  windowEnd : Option Nat
  deriving DecidableEq, Repr

/-- The levels the part reads on its inputs, as last changed by the outside; `contacts` says of each crosspoint
whether its open and its closed contact are made. -/
structure Inputs where
  strap : Nat
  rfPresent : Bool
  tuneDone : Bool
  arc : Bool
  linePins : Table Bool 4
  contacts : Table (Bool × Bool) 32 := Table.fill 32 (true, false)
  deriving DecidableEq, Repr

/-- NVM contents: addresses strictly rising, none listed with the byte an unlisted address reads as. -/
abbrev Memory := List Host.Cell

/-- The whole part. `free` counts the free values used; `pending` is the queue of waiting commands. -/
structure State where
  time : TimeUnit
  store : ScheduleStore
  plan : Planner
  link : Link
  hall : ClaimUnit
  row : RowDriver
  seq : Sequencer
  manual : Manual
  prot : Protection
  lines : FaultLines
  sup : Supervisor
  start : StartUp
  nvm : Memory
  inputs : Inputs
  free : Nat
  pending : List Instr
  deriving DecidableEq, Repr

/-! ## Values after reset, block by block -/

/-- R16. -/
def TimeUnit.initial : TimeUnit :=
  { osc := 0, phaseZero := 0, day := 0, second := 0, elapsed := 0, quality := .unset,
    holdoverSince := 0, lastEdge := none, lastEdgeStamp := 0, run := 0, silence := none,
    lastCounted := none, pendingSet := none }

/-- R37. -/
def ScheduleStore.initial : ScheduleStore :=
  { bank0 := Table.fill 96 none, bank1 := Table.fill 96 none, oneActive := false,
    pendingState := .editable, switchStamp := none, commitTarget := none, lastCheck := .none,
    checkEnd := none, overrides := [] }

/-- R57. -/
def Planner.initial : Planner := { floor := 0, next := none }

/-- R74. -/
def Link.initial : Link :=
  { engine := .sync, lineIdle := false, queue := [], resend := 0, attempt := none, blocked := none,
    busFault := false, drops := 0 }

/-- A FREE record without a suspect. -/
def PortRecord.blank : PortRecord :=
  { mark := .free, suspect := none, standing := none, lastEcho := .none }

/-- An ABSENT peer with its mismatch flag clear. -/
def PeerRecord.blank : PeerRecord :=
  { presence := .absent, lastFrame := 0, body := none, mismatch := false }

/-- R107. -/
def ClaimUnit.initial : ClaimUnit :=
  { map := Table.fill 32 PortRecord.blank, peers := Table.fill 16 PeerRecord.blank, maint := [],
    suspects := [], manualClaim := none, conflicts := [], conflictSince := 0, refused := [],
    lastPresence := 0, yielding := [] }

/-- A crosspoint that lies open, with no flag. -/
def Crosspoint.atRest : Crosspoint :=
  { reading := .atOpen, rest := .atOpen, settled := false, defect := none }

/-- R118. DESIGN CHOICE (entry 4): a part that has never run has every crosspoint open. -/
def RowDriver.initial : RowDriver :=
  { points := Table.fill 32 Crosspoint.atRest, motion := .still, recoveryMark := false,
    recoveryOf := none, waiting := none, travelTimer := none, settleTimer := none,
    firstReadings := none, watching := false }

/-- R143, with the RF-off watch of a reset that finds RF-present inactive (R123). -/
def Sequencer.initial : Sequencer :=
  { state := .idle, rowSub := .still, tuneSub := .idle, clearance := false, permit := false,
    current := none, leftPort := none, tuneAttempt := 0, tuneRequest := false, tuneFreq := none,
    tuneTimer := none, muteFrom := 0, muteDemand := 0, muteStep := 0, guardTimer := none,
    watch := none, watchOnRise := false, rfOff := some 0, clearWait := none, stepCount := 0,
    stepTimer := none, holdEnd := none, programme := 0 }

/-- Section 10.1, the values after every reset. -/
def Manual.initial : Manual :=
  { flag := false, port := none, cls := 3, freq := none, power := none, programme := 0,
    rfOn := false, tuned := none }

/-- R162 for a given rating. -/
def Protection.initial (rating : Nat) : Protection :=
  { target := rating, step := ceilDiv rating 10, last := none, pairFlag := false, foldback := false,
    limit := rating, ceiling := none, recoveryTimer := none, lowest := rating, capState := .full,
    cap := rating, capTimer := none, trips := [], lockout := none, lastLockout := none,
    txDropArmed := false, proof := none, demand := 0, sampleDue := none }

/-- R170: one line. -/
def FaultLine.initial : FaultLine :=
  { lastPin := none, filtered := .unknown, latched := false, waitInactive := false, count := 0 }

/-- R170. -/
def FaultLines.initial : FaultLines := { line := Table.fill 4 FaultLine.initial, sampleDue := 10 }

/-- R181, R184, R189: the port after a reset, before RESTARTED is filed. -/
def Supervisor.initial : Supervisor :=
  { sequence := 0, response := { sequence := 0, number := 0, result := none, data := [] },
    reports := [], sticky := ⟨false, false, false, false⟩,
    enables := ⟨false, false, false, false, false⟩, lamps := LampSetting.builtIn, blinkZero := 0,
    nvmPending := none }

/-- R190: step 1 done, step 2 under way. -/
def StartUp.initial : StartUp :=
  { params := Params.builtIn, outcome := none, reason := .powerOn, bay := 0, step := .load,
    rereadAt := none, windowEnd := none }

/-- DESIGN CHOICE (entry 5): the inputs of a part that has never run. -/
def Inputs.initial : Inputs :=
  { strap := 0, rfPresent := false, tuneDone := false, arc := false, linePins := Table.fill 4 true }

/-- The part at the end of a POWER_ON reset: the values of R16, R37, R57, R74, R107, R118, R143, R162,
R170 and R189, with RESTARTED filed (R183) and step 2 of the start sequence under way (R190). -/
def State.reset : State :=
  { time := TimeUnit.initial, store := ScheduleStore.initial, plan := Planner.initial,
    link := Link.initial, hall := ClaimUnit.initial, row := RowDriver.initial,
    seq := Sequencer.initial, manual := Manual.initial,
    prot := Protection.initial Params.builtIn.rating, lines := FaultLines.initial,
    sup := { Supervisor.initial with reports := [⟨0, .restarted, 0, 0⟩] },
    start := StartUp.initial, nvm := [], inputs := Inputs.initial, free := 0, pending := [] }

end Sys2Proof.Machine
end

