-- ==== Sys2Proof/Machine/Ops.lean ====
section
/-! DEFINITION. The named operations every block shares: the time stamp, the filing of reports, the
responses of the supervisor port, the reading of the row, of the map and of the NVM. -/

namespace Sys2Proof.Machine

/-! ## Time (R1) -/

/-- R1: day number × 86 400 + second of day. -/
def State.stamp (s : State) : Nat := s.time.day * daySeconds + s.time.second

/-- R1: 0 is Monday, and day 0 was a Saturday. -/
def weekdayOf (day : Nat) : Nat := (day + 5) % 7

/-- R1. -/
def minuteOfDay (second : Nat) : Nat := second / 60

/-- Section 1.1: weekday × 1440 + minute of day. -/
def weekMinuteOf (day second : Nat) : Nat := weekdayOf day * 1440 + minuteOfDay second

/-- The sub-second phase in ms (R2). -/
def State.phase (s : State) : Nat := s.time.osc - s.time.phaseZero

/-- R1: the calendar count after one more second; it stays at its largest stamp. -/
def advanceCalendar (t : TimeUnit) : TimeUnit :=
  if t.day * daySeconds + t.second ≥ stampMax then t
  else if t.second + 1 < daySeconds then { t with second := t.second + 1 }
  else { t with day := t.day + 1, second := 0 }

/-- R4: one second more on the elapsed-second count. -/
def advanceElapsed (t : TimeUnit) : TimeUnit := { t with elapsed := t.elapsed + 1 }

/-- R4: a number of elapsed seconds as an unsigned 32-bit count, as a report or a view shows it. -/
def elapsedCount (n : Nat) : Nat := n % 4294967296

/-- R5: the PPS is present while the silence timer runs. -/
def State.ppsPresent (s : State) : Bool := s.time.silence.isSome

/-- The oscillator stands at least at `t`: a timer's own event brings its instant with it (entry 2). -/
def State.reach (t : Nat) (s : State) : State :=
  { s with time := { s.time with osc := max s.time.osc t } }

/-- A duration in ms from now, as the oscillator time of its end. -/
def State.after (s : State) (ms : Nat) : Nat := s.time.osc + ms

/-! ## Reports (R183) -/

/-- R183: a report joins the tail of the queue, or is dropped at a full queue with REPORT_LOST set. -/
def file (kind : ReportKind) (subject detail : Nat) (s : State) : State :=
  if s.sup.reports.length < 32 then
    { s with sup := { s.sup with reports := s.sup.reports ++ [⟨s.stamp, kind, subject, detail⟩] } }
  else
    { s with sup := { s.sup with sticky := { s.sup.sticky with reportLost := true } } }

/-- A port of none is 255 in a subject (section 11.3). -/
def portCode (port : Option Nat) : Nat := port.getD 255

/-- A release stamp as sent on the hall bus and in reports: none is the all-ones stamp. -/
def stampCode (stamp : Option Nat) : Nat := stamp.getD stampNone

/-- A release stamp as read from the hall bus. -/
def stampOf (code : Nat) : Option Nat := if code = stampNone then none else some code

/-- The subject of a report on a source: its source number, or 254 for MANUAL (section 11.3). -/
def sourceCode : Source → Nat
  | .entry number _ => number
  | .manual => 254

/-! ## Responses (R181, R188) -/

/-- What a command decides: the state after it, its result and its return data. -/
abbrev Decision := State × Result × List Byte

/-- A refusal: nothing changes. -/
def deny (r : Result) (s : State) : Decision := (s, r, [])

/-- Answered with DONE and no return data. -/
def grant (s : State) : Decision := (s, .done, [])

/-- R181: the sequence count advances and the response is replaced. -/
def respond (number : Nat) (r : Result) (data : List Byte) (s : State) : State :=
  { s with sup := { s.sup with
      sequence := (s.sup.sequence + 1) % 256,
      response := ⟨(s.sup.sequence + 1) % 256, number, some r, data⟩ } }

/-- A host command decided by its own rule in every case. -/
def decided (number : Nat) (f : State → Decision) (s : State) : State :=
  respond number (f s).2.1 (f s).2.2 (f s).1

/-- R188: a host command that is refused with BUSY while an NVM command is pending. -/
def answered (number : Nat) (f : State → Decision) (s : State) : State :=
  if s.sup.nvmPending.isSome then respond number .busy [] s else decided number f s

/-! ## The bay, the configuration, the row and the map -/

/-- This bay's number (R190). -/
def State.bay (s : State) : Nat := s.start.bay

/-- The configuration in use. -/
def State.cfg (s : State) : Params := s.start.params

/-- The row driver's view of one crosspoint. -/
def State.point (s : State) (p : Nat) : Crosspoint := s.row.points.get p

/-- Rewrites one crosspoint. -/
def State.setPoint (p : Nat) (f : Crosspoint → Crosspoint) (s : State) : State :=
  { s with row := { s.row with points := s.row.points.put p (f (s.row.points.get p)) } }

/-- Rewrites the row driver. -/
def State.setRow (f : RowDriver → RowDriver) (s : State) : State := { s with row := f s.row }

/-- R120: the left port becomes none where it is the given one. -/
def dropLeft (p : Nat) (s : State) : State :=
  { s with seq := { s.seq with leftPort := s.seq.leftPort.filter (fun q => decide (q ≠ p)) } }

/-- R110: the waiting command is withdrawn; a port that it was to open is no left port any more (R120). -/
def withdrawWaiting (s : State) : State :=
  { s with row := { s.row with waiting := none },
           seq := { s.seq with
             leftPort := s.seq.leftPort.filter (fun q => decide (s.row.waiting ≠ some (.openPort q))) } }

/-- The ports whose crosspoint reads closed, lowest first. -/
def State.closedPorts (s : State) : List Nat :=
  (s.row.points.entries.filter (fun e => e.2.reading = .atClosed)).map Prod.fst

/-- The map record of one port. -/
def State.portRec (s : State) (p : Nat) : PortRecord := s.hall.map.get p

/-- Rewrites one map record. -/
def State.setPort (p : Nat) (f : PortRecord → PortRecord) (s : State) : State :=
  { s with hall := { s.hall with map := s.hall.map.put p (f (s.hall.map.get p)) } }

/-- The bay that owns a mark. -/
def Mark.owner : Mark → Option Nat
  | .free => none
  | .intended o _ _ _ => some o
  | .held o _ _ => some o
  | .maint o _ _ => some o

/-- HELD by the bay. -/
def Mark.heldBy (b : Nat) : Mark → Bool
  | .held o _ _ => o = b
  | _ => false

/-- MAINT by the bay. -/
def Mark.maintBy (b : Nat) : Mark → Bool
  | .maint o _ _ => o = b
  | _ => false

/-- HELD or MAINT by the bay. -/
def Mark.takenBy (b : Nat) (m : Mark) : Bool := m.heldBy b || m.maintBy b

/-- HELD or MAINT by any bay. -/
def Mark.taken : Mark → Bool
  | .held _ _ _ => true
  | .maint _ _ _ => true
  | _ => false

/-- The release stamp of a HELD or MAINT mark. -/
def Mark.release : Mark → Option Nat
  | .held _ _ r => r
  | .maint _ _ r => r
  | _ => none

/-- The class of a HELD or MAINT mark. -/
def Mark.cls : Mark → Nat
  | .held _ c _ => c
  | .maint _ c _ => c
  | _ => 0

/-- The map shows the port HELD by this bay. -/
def State.ownHeld (s : State) (p : Nat) : Bool := (s.portRec p).mark.heldBy s.bay

/-- The map shows the port HELD or MAINT by this bay. -/
def State.ownTaken (s : State) (p : Nat) : Bool := (s.portRec p).mark.takenBy s.bay

/-- The port this bay's transmitter is joined to and holds: the lowest closed port HELD by this bay. -/
def State.heldPort (s : State) : Option Nat := s.closedPorts.find? (fun p => s.ownHeld p)

/-! ## The NVM -/

/-- DESIGN CHOICE (entry 6): what an NVM byte that nothing has written reads as. -/
def nvmBlank : Byte := 0

/-- One byte of the NVM. -/
def Memory.read (a : Nat) : Memory → Byte
  | [] => nvmBlank
  | (b, x) :: rest => if b = a then x else if a < b then nvmBlank else Memory.read a rest

/-- Drops or adds the entry for one address, keeping the canonical form. -/
def Memory.write (a : Nat) (x : Byte) : Memory → Memory
  | [] => if x = nvmBlank then [] else [(a, x)]
  | (b, y) :: rest =>
    if b = a then (if x = nvmBlank then rest else (a, x) :: rest)
    else if a < b then (if x = nvmBlank then (b, y) :: rest else (a, x) :: (b, y) :: rest)
    else (b, y) :: Memory.write a x rest

/-- A run of bytes written from an address on. -/
def Memory.writeAll : Nat → List Byte → Memory → Memory
  | _, [], m => m
  | a, x :: xs, m => Memory.writeAll (a + 1) xs (Memory.write a x m)

/-- A run of bytes read from an address on. -/
def Memory.readAll (a n : Nat) (m : Memory) : List Byte := (List.range n).map (fun i => m.read (a + i))

/-- The canonical form: addresses strictly rising and above `lo`, and no listed byte blank. -/
def Memory.wfFrom : Nat → Memory → Bool
  | _, [] => true
  | lo, (a, x) :: rest => decide (lo ≤ a) && decide (x ≠ nvmBlank) && Memory.wfFrom (a + 1) rest

/-- The memory is in its canonical form. -/
def Memory.wf (m : Memory) : Bool := Memory.wfFrom 0 m

end Sys2Proof.Machine
end

