-- ==== Sys2Proof/Machine/Schedule.lean ====
section
/-! DEFINITION. The schedule store's own computations: which bank is which, the overlap and eligibility
tests of the check, the occurrence that applies at an instant, and the segments of the timeline. -/

namespace Sys2Proof

/-! ## The antenna table -/

/-- The antenna row of a port; none where the table is empty. -/
def Params.row (c : Params) (p : Nat) : Option AntennaRow := c.antenna.map (fun t => t.get p)

/-- Section 2.1: fmin ≤ frequency ≤ fmax. In CONFIG_FAULT every port is out of band (R187). -/
def Params.inBand (c : Params) (p f : Nat) : Bool :=
  match c.row p with
  | some r => decide (r.fmin ≤ f ∧ f ≤ r.fmax)
  | none => false

/-- R75: two ports of one curtain; with an empty table each port is a curtain of its own. -/
def Params.sameCurtain (c : Params) (p q : Nat) : Bool :=
  decide (p = q) ||
  match c.row p, c.row q with
  | some a, some b => decide (a.curtain = b.curtain)
  | _, _ => false

/-- R75: the curtain shown for a port. With an empty table each port is a curtain of its own, which the spec does not
number, and the port's own number is shown for it (DESIGN CHOICE, entry 95). -/
def Params.curtain (c : Params) (p : Nat) : Nat :=
  match c.row p with
  | some r => r.curtain
  | none => p

/-- R187: the maximum power of a port, or the rating with an empty table. -/
def Params.portMax (c : Params) (p : Nat) : Nat :=
  match c.row p with
  | some r => r.maxPower
  | none => c.rating

/-- The ports of p's curtain, lowest first, p among them. -/
def Params.curtainPorts (c : Params) (p : Nat) : List Nat :=
  (List.range 32).filter (fun q => c.sameCurtain p q)

end Sys2Proof

namespace Sys2Proof.Machine

/-! ## Banks -/

/-- The store in role ACTIVE (R17). -/
def ScheduleStore.activeBank (st : ScheduleStore) : Bank := if st.oneActive then st.bank1 else st.bank0

/-- The store in role PENDING. -/
def ScheduleStore.pendingBank (st : ScheduleStore) : Bank := if st.oneActive then st.bank0 else st.bank1

/-- The number of the store in role ACTIVE. -/
def ScheduleStore.activeNo (st : ScheduleStore) : Nat := if st.oneActive then 1 else 0

/-- The number of the store in role PENDING. -/
def ScheduleStore.pendingNo (st : ScheduleStore) : Nat := if st.oneActive then 0 else 1

/-- R17: the host writes only the store in role PENDING. -/
def ScheduleStore.setPending (st : ScheduleStore) (b : Bank) : ScheduleStore :=
  if st.oneActive then { st with bank0 := b } else { st with bank1 := b }

/-- The used slots of a bank with their numbers, lowest first. -/
def usedSlots (b : Bank) : List (Nat × BankEntry) :=
  b.entries.filterMap (fun e => e.2.map (fun x => (e.1, x)))

/-! ## The check (R22, R23) -/

/-- Weekday d (0 is Monday) lies in a days set (R181: bit 0 Monday to bit 6 Sunday). -/
def startsOn (days : Byte) (d : Nat) : Bool := days.getLsbD d && decide (d < 7)

/-- R22: the week minutes at which an entry's weekly spans begin. -/
def spanStarts (e : BankEntry) : List Nat :=
  ((List.range 7).filter (fun d => startsOn e.days d)).map (fun d => d * 1440 + e.body.startMin)

/-- R22: two spans counted modulo 10 080 share a week minute. -/
def spansShare (a la b lb : Nat) : Bool :=
  decide ((b % 10080 + 10080 - a % 10080) % 10080 < la) ||
  decide ((a % 10080 + 10080 - b % 10080) % 10080 < lb)

/-- R22: two used slots overlap. -/
def entriesOverlap (x y : BankEntry) : Bool :=
  (spanStarts x).any fun a => (spanStarts y).any fun b => spansShare a x.body.duration b y.body.duration

/-- R22: the overlapping pair (a, b) with the lowest a, and for that a the lowest b. -/
def firstOverlap : List (Nat × BankEntry) → Option (Nat × Nat)
  | [] => none
  | (a, x) :: rest =>
    match rest.find? (fun q => entriesOverlap x q.2) with
    | some q => some (a, q.1)
    | none => firstOverlap rest

/-- R23: the eligibility mark of each listed port. -/
def bandMarks (c : Params) (body : EntryBody) : List Eligibility :=
  body.ports.map (fun p => if c.inBand p body.freq then .eligible else .ineligible)

/-- R23: the bank with the marks of every used slot set. -/
def markBank (c : Params) (b : Bank) : Bank :=
  b.mapIdx (fun _ slot => slot.map (fun e => { e with marks := bandMarks c e.body }))

/-- R23: the lowest-numbered used slot without an eligible port. -/
def firstIneligible (c : Params) (b : Bank) : Option Nat :=
  ((usedSlots b).find? (fun q => !(bandMarks c q.2.body).contains .eligible)).map Prod.fst

/-- R24: what the check finds. -/
def checkOutcome (c : Params) (b : Bank) : CheckResult :=
  match firstOverlap (usedSlots b) with
  | some (x, y) => .overlap x y
  | none =>
    match firstIneligible c b with
    | some x => .noEligiblePort x
    | none => .accepted

/-! ## Overrides (R29) -/

/-- R29: date × 86 400 + start minute × 60. -/
def startStamp (date startMin : Nat) : Nat := date * daySeconds + startMin * 60

/-- R29. -/
def Override.start (o : Override) : Nat := startStamp o.date o.body.startMin

/-- R29: start stamp + duration × 60. -/
def Override.stop (o : Override) : Nat := o.start + o.body.duration * 60

/-- Two half-open spans share a second. -/
def spansMeet (a b c d : Nat) : Bool := decide (a < d ∧ c < b)

/-- R31: inserts by start stamp. -/
def insertOverride (o : Override) : List Override → List Override
  | [] => [o]
  | x :: rest => if x.start < o.start then x :: insertOverride o rest else o :: x :: rest

/-- R31: the lowest tag that no held override carries. -/
def lowestTag (l : List Override) : Nat :=
  ((List.range 16).find? (fun t => !(l.any (fun o => o.tag = t)))).getD 16

/-- R32: the overrides whose end has not been reached. -/
def unexpired (now : Nat) (l : List Override) : List Override := l.filter (fun o => decide (now < o.stop))

/-! ## Which entry applies (R34, R35) -/

/-- R34: one concrete interval with the entry whose contents it carries; `bank` is 0, 1, or 2 for an
override. -/
structure Occurrence where
  number : Nat
  day : Nat
  bank : Nat
  start : Nat
  stop : Nat
  body : EntryBody
  deriving DecidableEq, Repr, Inhabited

/-- The occurrence of an override. -/
def Override.occurrence (o : Override) : Occurrence :=
  { number := 96 + o.tag, day := o.date, bank := 2, start := o.start, stop := o.stop, body := o.body }

/-- R34: the occurrence of a bank entry that starts on day D, if D's weekday lies in its days set. -/
def occurrenceOn (bank slot day : Nat) (e : BankEntry) : Option Occurrence :=
  if startsOn e.days (weekdayOf day) then
    some { number := slot, day := day, bank := bank, start := startStamp day e.body.startMin,
           stop := startStamp day e.body.startMin + e.body.duration * 60, body := e.body }
  else none

/-- The occurrence contains the instant. -/
def Occurrence.covers (o : Occurrence) (t : Nat) : Bool := decide (o.start ≤ t ∧ t < o.stop)

/-- R35, step 3: the occurrence of a bank that contains t begins on t's day or on the day before. -/
def bankOccurrence (no : Nat) (b : Bank) (t : Nat) : Option Occurrence :=
  (usedSlots b).findSome? fun q =>
    ([t / daySeconds, t / daySeconds - 1].filterMap (fun d => occurrenceOn no q.1 d q.2)).find?
      (fun o => o.covers t)

/-- R35, step 2: the switch stamp of an armed pending bank. -/
def ScheduleStore.armedAt (st : ScheduleStore) : Option Nat :=
  if st.pendingState = .armed then st.switchStamp else none

/-- R35, steps 2 and 3: the occurrence of the bank in force at t that contains t. -/
def bankAt (st : ScheduleStore) (t : Nat) : Option Occurrence :=
  if st.armedAt.any (fun w => decide (w ≤ t)) then bankOccurrence st.pendingNo st.pendingBank t
  else bankOccurrence st.activeNo st.activeBank t

/-- R35: the occurrence that applies at an instant. -/
def appliesAt (st : ScheduleStore) (t : Nat) : Option Occurrence :=
  match st.overrides.find? (fun o => o.occurrence.covers t) with
  | some o => some o.occurrence
  | none => bankAt st t

/-! ## Segments (R39) -/

/-- R39: a maximal interval over which one occurrence applies. -/
structure Segment where
  occ : Occurrence
  start : Nat
  stop : Nat
  deriving DecidableEq, Repr, Inhabited

/-- The greatest of a start and of the instants of a list. -/
def latestOf (a : Nat) (l : List Nat) : Nat := l.foldl max a

/-- The least of an end and of the instants of a list. -/
def earliestOf (a : Nat) (l : List Nat) : Nat := l.foldl min a

/-- R39: the segment that contains the instant. A resumed remainder starts at its override's end while that override is
held; once it has left the list at its end (R32), the segment starts with its occurrence (DESIGN CHOICE, entry
41). -/
def segmentAt (st : ScheduleStore) (t : Nat) : Option Segment :=
  (appliesAt st t).map fun o =>
    if o.bank = 2 then { occ := o, start := o.start, stop := o.stop }
    else
      let before := (st.overrides.map Override.stop).filter (fun x => decide (x ≤ t))
      let beyond := (st.overrides.map Override.start).filter (fun x => decide (t < x))
      let armed := st.armedAt.toList
      { occ := o,
        start := latestOf o.start (before ++ armed.filter (fun w => decide (w ≤ t))),
        stop := earliestOf o.stop (beyond ++ armed.filter (fun w => decide (t < w))) }

/-- The starts of a bank's occurrences on the days from that of a to that of b. -/
def bankStarts (no : Nat) (b : Bank) (lo hi : Nat) : List Nat :=
  (usedSlots b).flatMap fun q =>
    (List.range (hi / daySeconds - lo / daySeconds + 1)).filterMap fun i =>
      (occurrenceOn no q.1 (lo / daySeconds + i) q.2).map Occurrence.start

/-- The instants after x at which a segment may begin when nothing applies at x. -/
def segmentStarts (st : ScheduleStore) (x limit : Nat) : List Nat :=
  st.overrides.map Override.start ++ st.armedAt.toList
    ++ bankStarts st.activeNo st.activeBank x limit ++ bankStarts st.pendingNo st.pendingBank x limit

/-- R41: the segment that contains x, or else the first that starts after x and before the limit. The planner looks
no further than the limit, so a segment that contains an x beyond it is found once its start comes before the limit
(DEDUCED, entry 68). -/
def nextSegment (st : ScheduleStore) (x limit : Nat) : Option Segment :=
  match segmentAt st x with
  | some g => if g.start < limit then some g else none
  | none =>
    let hits := (segmentStarts st x limit).filter
      (fun c => decide (x < c ∧ c < limit) && (segmentAt st c).isSome)
    match hits with
    | [] => none
    | c :: cs => segmentAt st (earliestOf c cs)

end Sys2Proof.Machine
end

