-- ==== Sys2Proof/Machine/Operands.lean ====
section
/-! DEFINITION. The ranges in which the host's arguments must lie, and the coding of return data on the
supervisor port (R181). -/

namespace Sys2Proof.Machine

/-! ## Ranges -/

/-- No port of a list stands in it twice. -/
def distinctPorts : List Nat → Bool
  | [] => true
  | p :: rest => !rest.contains p && distinctPorts rest

/-- R18: the fields an entry has in common lie in their ranges. -/
def entryInRange (c : Params) (b : EntryBody) : Bool :=
  decide (b.startMin ≤ 1439) && decide (1 ≤ b.duration ∧ b.duration ≤ 1440)
    && decide (c.fLo ≤ b.freq ∧ b.freq ≤ c.fHi) && decide (1 ≤ b.power ∧ b.power ≤ 6000)
    && decide (1 ≤ b.cls ∧ b.cls ≤ 3) && decide (1 ≤ b.ports.length ∧ b.ports.length ≤ 4)
    && b.ports.all (fun p => decide (p ≤ 31)) && distinctPorts b.ports && decide (b.programme ≤ 7)

/-- R18, section 2.1: a days set is a non-empty set of Monday to Sunday; R181 keeps bit 7 zero. -/
def daysInRange (days : Byte) : Bool := decide (days ≠ 0) && !days.getLsbD 7

/-- Section 11.6: the lamp sources in the order of their codes. -/
def lampSourceOf : Nat → Option LampSource
  | 0 => some .onAir
  | 1 => some .changeover
  | 2 => some .portHeld
  | 3 => some .foldback
  | 4 => some .lockout
  | 5 => some .anyFaultLine
  | 6 => some .timeNotLocked
  | 7 => some .busFault
  | 8 => some .tableMismatch
  | 9 => some .always
  | 10 => some .never
  | _ => none

/-- Section 11.6: the blink codes. -/
def blinkOf : Nat → Option Blink
  | 0 => some .steady
  | 1 => some .slow
  | 2 => some .fast
  | _ => none

/-- Section 11.6: the invert option as one byte. -/
def invertOf : Nat → Option Bool
  | 0 => some false
  | 1 => some true
  | _ => none

/-! ## Numbered values (R181: numbered from 0 in the order the manual first lists them) -/

/-- R181: the results, 0 to 9 in the order of the rule, and PENDING 10. -/
def resultCode : Result → Nat
  | .done => 0
  | .busy => 1
  | .badArgument => 2
  | .wrongState => 3
  | .armed => 4
  | .full => 5
  | .notFound => 6
  | .stillActive => 7
  | .notStale => 8
  | .overlap => 9
  | .pending => 10

def qualityCode : Quality → Nat
  | .unset => 0
  | .locked => 1
  | .holdover => 2

def eligibilityCode : Eligibility → Nat
  | .unchecked => 0
  | .eligible => 1
  | .ineligible => 2

def pendingStateCode : PendingState → Nat
  | .editable => 0
  | .checking => 1
  | .armed => 2

/-- The result codes of BANK_CHECK_DONE (section 11.3). A result of none has no code: it is shown as absent. -/
def checkCode : CheckResult → Nat
  | .accepted => 0
  | .overlap _ _ => 1
  | .noEligiblePort _ => 2
  | .notDone => 3
  | .none => 0

def claimStateCode : ClaimState → Nat
  | .unclaimed => 0
  | .queued => 1
  | .inWindow => 2
  | .won => 3
  | .waitRelease => 4
  | .noPort => 5

def kindCode : Kind → Nat
  | .continuation => 0
  | .retune => 1
  | .full => 2
  | .first => 3

def pathCode : Path → Nat
  | .full => 0
  | .retune => 1
  | .continuation => 2

def engineCode : Engine → Nat
  | .sync => 0
  | .idle => 1
  | .contending => 2
  | .sending => 3
  | .receiving => 4
  | .spoiling => 5

def markCode : Mark → Nat
  | .free => 0
  | .intended _ _ _ _ => 1
  | .held _ _ _ => 2
  | .maint _ _ _ => 3

def standingCode : Standing → Nat
  | .confirmed => 0
  | .unconfirmed => 1

def ownEchoCode : OwnEcho → Option Nat
  | .hold => some 0
  | .release => some 1
  | .none => none

def presenceCode : Presence → Nat
  | .absent => 0
  | .present => 1
  | .silent => 2

/-- Section 11.3: reading 0 open, 1 closed, 2 travel, 3 conflict. -/
def readingCode : Reading → Nat
  | .atOpen => 0
  | .atClosed => 1
  | .travel => 2
  | .conflict => 3

def defectCode : DefectCause → Nat
  | .closeFail => 0
  | .openFail => 1
  | .stray => 2
  | .start => 3

def seqStateCode : SeqState → Nat
  | .idle => 0
  | .heldIdle => 1
  | .muting => 2
  | .guarding => 3
  | .reposition => 4
  | .ramping => 5
  | .onAir => 6
  | .restartHold => 7
  | .paused => 8
  | .locked => 9
  | .matrixFault => 10
  | .configFault => 11

def rowSubCode : RowSub → Nat
  | .still => 0
  | .opening => 1
  | .waitPort => 2
  | .closing => 3
  | .settling => 4

def tuneSubCode : TuneSub → Nat
  | .idle => 0
  | .tuning => 1
  | .tuned => 2
  | .failed => 3

def capStateCode : CapState → Nat
  | .full => 0
  | .reduced => 1
  | .recovering => 2

/-- Section 11.3: trip cause 0 VSWR, 1 ARC, 2 TX_DROP. -/
def tripCode : TripCause → Nat
  | .vswr => 0
  | .arc => 1
  | .txDrop => 2

/-- Section 11.3: lockout cause 0 TRIPS, 1 MUTE_FAIL, 2 FAULT_LINE, 3 CONFLICT. -/
def lockoutCode : LockoutCause → Nat
  | .trips _ => 0
  | .muteFail => 1
  | .faultLine _ => 2
  | .conflict => 3

/-- Section 11.3: the trip cause for TRIPS, the line for FAULT_LINE, 0 otherwise. -/
def lockoutCarried : LockoutCause → Nat
  | .trips c => tripCode c
  | .faultLine l => l
  | _ => 0

def filteredCode : Filtered → Nat
  | .unknown => 0
  | .active => 1
  | .inactive => 2

/-- The report kinds by the table of section 11.3; the code of the empty mark NONE is free (entry 7). -/
def reportKindCode : ReportKind → Nat
  | .restarted => 0
  | .timeSet => 1
  | .timeHoldover => 2
  | .timeLocked => 3
  | .bankCheckDone => 4
  | .bankSwitched => 5
  | .entryOnAir => 6
  | .entryLate => 7
  | .entryEnded => 8
  | .entryMissed => 9
  | .noPort => 10
  | .claimWon => 11
  | .claimLost => 12
  | .claimWait => 13
  | .tuneFail => 14
  | .crosspointFault => 15
  | .trip => 16
  | .lockout => 17
  | .foldbackOn => 18
  | .foldbackOff => 19
  | .faultLine => 20
  | .doubleHold => 21
  | .yielded => 22
  | .peerSilent => 23
  | .peerBack => 24
  | .tableMismatch => 25
  | .suspectHeard => 26
  | .clearHeard => 27
  | .busFault => 28
  | .none => Config.emptyKindCode

/-- Section 11.3: reset reason 0 POWER_ON, 1 RESET_PIN, 2 SUPPLY_LOW, 3 HOST_RESTART. -/
def resetCode : ResetCause → Nat
  | .powerOn => 0
  | .resetPin => 1
  | .supplyLow => 2
  | .hostRestart => 3

/-- R186: outcomes. -/
def loadCode : LoadOutcome → Nat
  | .configFault => 0
  | .loaded => 1
  | .clamped => 2

/-- R182: the start-sequence step, 1 to 5, or DONE, whose code is free (entry 7). -/
def stepCode : StartStep → Nat
  | .load => 2
  | .startUpRead => 3
  | .rollCall => 5
  | .done => Config.stepDoneCode

def lampSourceCode : LampSource → Nat
  | .onAir => 0
  | .changeover => 1
  | .portHeld => 2
  | .foldback => 3
  | .lockout => 4
  | .anyFaultLine => 5
  | .timeNotLocked => 6
  | .busFault => 7
  | .tableMismatch => 8
  | .always => 9
  | .never => 10

def blinkCode : Blink → Nat
  | .steady => 0
  | .slow => 1
  | .fast => 2

/-- Section 11.3: the kind codes of the hall frames (section 4.2). -/
def frameKindCode : Frame → Nat
  | .object _ _ _ _ => 0
  | .release _ _ => 1
  | .hold _ _ _ => 2
  | .intent _ _ _ => 3
  | .suspect _ _ => 4
  | .clear _ => 5
  | .presence _ => 6

/-- Section 11.3: the sum of MUTE 1, HOLD_MOTION 2, LOCKOUT 4, REPORT 8. -/
def actionCode (c : LineConfig) : Nat :=
  (if c.mute then 1 else 0) + (if c.holdMotion then 2 else 0) + (if c.lockout then 4 else 0)
    + (if c.report then 8 else 0)

/-! ## Bytes of the return data (R181) -/

/-- One byte. -/
def byte1 (n : Nat) : List Byte := [BitVec.ofNat 8 n]

/-- Two bytes, high byte first. -/
def byte2 (n : Nat) : List Byte := [BitVec.ofNat 8 (n / 256), BitVec.ofNat 8 n]

/-- Four bytes, high byte first. -/
def byte4 (n : Nat) : List Byte :=
  [BitVec.ofNat 8 (n / 16777216), BitVec.ofNat 8 (n / 65536), BitVec.ofNat 8 (n / 256), BitVec.ofNat 8 n]

/-- A yes or no is one byte, 0 for no. -/
def byteFlag (b : Bool) : List Byte := byte1 (if b then 1 else 0)

/-- An item that may be absent or none is preceded by a byte, 0 for absent and 1 for present. -/
def byteOpt (f : α → List Byte) : Option α → List Byte
  | none => byte1 0
  | some x => byte1 1 ++ f x

/-- A port of none is sent as 255. -/
def bytePort (p : Option Nat) : List Byte := byte1 (portCode p)

/-- A list, preceded by its count in one byte, which R181 gives for a port list (DEDUCED for every other, entry 7). -/
def byteList (f : α → List Byte) (l : List α) : List Byte := byte1 l.length ++ l.flatMap f

/-- The fields an entry has in common, in the order of the table of section 2.1. The duration takes two bytes, as
the same field does when WRITE_ENTRY sends it (entry 7). -/
def entryBytes (b : EntryBody) : List Byte :=
  byte2 b.startMin ++ byte2 b.duration ++ byte2 b.freq ++ byte2 b.power ++ byte1 b.cls
    ++ byteList byte1 b.ports ++ byte1 b.programme

end Sys2Proof.Machine
end

