-- ==== Sys2Proof/Machine/Frames.lean ====
section
/-! DEFINITION. The hall frame byte by byte (section 4.2), its check (R62), and the tests a receiver makes
of the bytes it reads (R63, R64). -/

namespace Sys2Proof.Machine

/-! ## The check (R62) -/

/-- One bit through the register: generator x^16 + x^12 + x^5 + 1. -/
def crcBit (r : BitVec 16) (b : Bool) : BitVec 16 :=
  if r.getLsbD 15 != b then (r <<< 1) ^^^ 0x1021#16 else r <<< 1

/-- One byte, most significant bit first. -/
def crcByte (r : BitVec 16) (x : Byte) : BitVec 16 :=
  [7, 6, 5, 4, 3, 2, 1, 0].foldl (fun acc i => crcBit acc (x.getLsbD i)) r

/-- R62: the register is preset to all ones and the result is not inverted. -/
def crc (bytes : List Byte) : BitVec 16 := bytes.foldl crcByte 0xFFFF#16

/-- A 16-bit check as two bytes, high byte first. -/
def crcBytes (bytes : List Byte) : List Byte := byte2 (crc bytes).toNat

/-! ## The layout -/

/-- The flags byte of a PRESENCE: bit 0 roll call, bit 1 restarted, bit 2 config fault. -/
def presenceFlags (b : PresenceBody) : Nat :=
  (if b.rollCall then 1 else 0) + (if b.restarted then 2 else 0) + (if b.configFault then 4 else 0)

/-- The body bytes of a frame, in the order of the table. -/
def frameBody : Frame → List Byte
  | .object port held reason release => byte1 port ++ byte1 held ++ byte1 reason ++ byte4 release
  | .release port forBay => byte1 port ++ byte1 forBay
  | .hold port cls release => byte1 port ++ byte1 cls ++ byte4 release
  | .intent port cls start => byte1 port ++ byte1 cls ++ byte4 start
  | .suspect port cause => byte1 port ++ byte1 cause
  | .clear port => byte1 port
  | .presence b =>
    byte1 (presenceFlags b) ++ byte1 b.reason ++ byte2 b.signature ++ byte1 b.held ++ byte4 b.release
      ++ byteList byte1 b.maint ++ byteList (fun q => byte1 q.1 ++ byte1 q.2) b.suspects

/-- Header, length and body: the bytes the check is taken over. -/
def frameHead (sender : Nat) (f : Frame) : List Byte :=
  byte1 (frameKindCode f * 16 + sender) ++ byte1 (frameBody f).length ++ frameBody f

/-- The frame as sent, check and all, less the tail guard. -/
def frameBytes (sender : Nat) (f : Frame) : List Byte := frameHead sender f ++ crcBytes (frameHead sender f)

/-! ## Bits on the line (R59 to R61). The model's commands say how a contention ended; these functions say how
the line decides it. -/

/-- R59: the ten bit times of a byte, true for recessive: start bit, eight data bits, stop bit. -/
def byteBits (x : Byte) : List Bool :=
  [false] ++ [7, 6, 5, 4, 3, 2, 1, 0].map (fun i => x.getLsbD i) ++ [true]

/-- R59, section 4.2: the bit times of a frame, the recessive tail guard last. -/
def frameBits (sender : Nat) (f : Frame) : List Bool :=
  (frameBytes sender f).flatMap byteBits ++ [true, true]

/-- R61: the header value contention is settled by; the lower wins. -/
def headerValue (sender : Nat) (f : Frame) : Nat := frameKindCode f * 16 + sender

/-- R59: the level of a header bit on the line: recessive only while every station sends recessive. -/
def lineLevel (headers : List Nat) (i : Nat) : Bool := headers.all (fun h => h.testBit i)

/-- R61: one data bit. A station that sent recessive and reads dominant withdraws. -/
def contendBit (headers : List Nat) (i : Nat) : List Nat :=
  headers.filter (fun h => h.testBit i = lineLevel headers i)

/-- R61: the stations left sending after the eight data bits of the header. -/
def contend (headers : List Nat) : List Nat := [7, 6, 5, 4, 3, 2, 1, 0].foldl contendBit headers

/-! ## The content test (R64) -/

/-- R64: every field lies within the values of the body table. -/
def contentOk : Frame → Bool
  | .object port held reason release =>
    decide (port ≤ 31 ∧ held ≤ 31 ∧ reason ≤ 1 ∧ release ≤ stampNone)
  | .release port forBay => decide (port ≤ 31 ∧ forBay ≤ 15)
  | .hold port cls release => decide (port ≤ 31 ∧ cls ≤ 3 ∧ release ≤ stampNone)
  | .intent port cls start => decide (port ≤ 31 ∧ cls ≤ 3 ∧ start ≤ stampNone)
  | .suspect port cause => decide (port ≤ 31 ∧ cause ≤ 2)
  | .clear port => decide (port ≤ 31)
  | .presence b =>
    decide (b.reason ≤ 3 ∧ b.signature ≤ 65535 ∧ (b.held ≤ 31 ∨ b.held = 255) ∧ b.release ≤ stampNone)
      && decide (b.maint.length ≤ 4 ∧ b.suspects.length ≤ 4)
      && b.maint.all (fun p => decide (p ≤ 31))
      && b.suspects.all (fun q => decide (q.1 ≤ 31 ∧ q.2 ≤ 2))

/-- A frame that can be delivered: a sender of four bits and content that passes R64. -/
def deliverable (sender : Nat) (f : Frame) : Bool := decide (sender ≤ 15) && contentOk f

/-! ## Reading the bytes -/

/-- A number of two bytes. -/
def num2 (a b : Byte) : Nat := a.toNat * 256 + b.toNat

/-- A number of four bytes. -/
def num4 (a b c d : Byte) : Nat := a.toNat * 16777216 + b.toNat * 65536 + c.toNat * 256 + d.toNat

/-- The pairs of port and cause of a PRESENCE. -/
def pairsOf : List Byte → List (Nat × Nat)
  | p :: c :: rest => (p.toNat, c.toNat) :: pairsOf rest
  | _ => []

/-- R64, length: a PRESENCE body of 11 + m + 2s bytes, with bits 3 to 7 of its flags zero. -/
def presenceOf : List Byte → Option Frame
  | fl :: rs :: g1 :: g0 :: h :: r3 :: r2 :: r1 :: r0 :: m :: rest =>
    let maint := rest.take m.toNat
    match rest.drop m.toNat with
    | [] => none
    | n :: pairs =>
      if maint.length = m.toNat ∧ pairs.length = 2 * n.toNat ∧ fl.toNat < 8 then
        some (.presence
          { rollCall := fl.getLsbD 0, restarted := fl.getLsbD 1, configFault := fl.getLsbD 2,
            reason := rs.toNat, signature := num2 g1 g0, held := h.toNat,
            release := num4 r3 r2 r1 r0, maint := maint.map BitVec.toNat, suspects := pairsOf pairs })
      else none
  | _ => none

/-- The frame a kind code and a body spell, its fields not yet tested. -/
def bodyOf : Nat → List Byte → Option Frame
  | 0, [p, h, r, a, b, c, d] => some (.object p.toNat h.toNat r.toNat (num4 a b c d))
  | 1, [p, f] => some (.release p.toNat f.toNat)
  | 2, [p, k, a, b, c, d] => some (.hold p.toNat k.toNat (num4 a b c d))
  | 3, [p, k, a, b, c, d] => some (.intent p.toNat k.toNat (num4 a b c d))
  | 4, [p, k] => some (.suspect p.toNat k.toNat)
  | 5, [p] => some (.clear p.toNat)
  | 6, body => presenceOf body
  | _, _ => none

/-- R63: the length byte fits the kind. -/
def lengthFits (kind len : Nat) : Bool :=
  match kind with
  | 0 => decide (len = 7)
  | 1 => decide (len = 2)
  | 2 => decide (len = 6)
  | 3 => decide (len = 6)
  | 4 => decide (len = 2)
  | 5 => decide (len = 1)
  | 6 => decide (11 ≤ len ∧ len ≤ 23)
  | _ => false

/-- What a receiver finds of a frame: a fault before the tail guard (R63), a fault at its end (R64), or
nothing wrong. -/
inductive Verdict where
  | breakOff
  | tailGuard
  | sound (sender : Nat) (frame : Frame)
  deriving DecidableEq, Repr

/-- R63, R64: the receiver's tests of the bytes of a frame, up to the end of the check. -/
def receive : List Byte → Verdict
  | header :: len :: rest =>
    let kind := header.toNat / 16
    if !lengthFits kind len.toNat then .breakOff
    else
      let body := rest.take len.toNat
      match rest.drop len.toNat with
      | [c1, c0] =>
        if body.length ≠ len.toNat then .breakOff
        else if crcBytes (header :: len :: body) ≠ [c1, c0] then .tailGuard
        else
          match bodyOf kind body with
          | some f => if contentOk f then .sound (header.toNat % 16) f else .tailGuard
          | none => .tailGuard
      | _ => .breakOff
  | _ => .breakOff

/-! ## Reading the bits (R59) -/

/-- A byte from its data bits, most significant bit first; a recessive bit has the value 1. -/
def byteOfBits (bits : List Bool) : Byte := BitVec.ofNat 8 (bits.foldl (fun n b => 2 * n + b.toNat) 0)

/-- R59: the byte in the next ten bit times with the bits after it; none is a framing error, a start bit read
recessive or a stop bit read dominant. Bits that end before the byte does are read so too. -/
def readByte : List Bool → Option (Byte × List Bool)
  | false :: a :: b :: c :: d :: e :: f :: g :: h :: true :: rest =>
    some (byteOfBits [a, b, c, d, e, f, g, h], rest)
  | _ => none

/-- R59: the next n bytes. -/
def readBytes : Nat → List Bool → Option (List Byte)
  | 0, _ => some []
  | n + 1, bits =>
    match readByte bits with
    | some (x, rest) => (readBytes n rest).map (fun xs => x :: xs)
    | none => none

/-- R59, R63, R64: the receiver's tests of the bits it reads from the header's start bit on. The header and the
length are tested as they come, and the layout calls for as many bytes after them as the length says and two. -/
def receiveBits (bits : List Bool) : Verdict :=
  match readBytes 1 bits, readBytes 2 bits with
  | some [header], some [_, len] =>
    if !lengthFits (header.toNat / 16) len.toNat then .breakOff
    else
      match readBytes (len.toNat + 4) bits with
      | some bytes => receive bytes
      | none => .breakOff
  | _, _ => .breakOff

end Sys2Proof.Machine
end

