-- ==== Sys2Proof/WellFormed.lean ====
section
/-! DEFINITION. Which commands are well formed: every operand fits the field that carries it, on the
supervisor port (R181) or in a hall frame (section 4.2). A well-formed argument may still be refused. -/

namespace Sys2Proof

/-- A number of one byte. -/
def fits1 (n : Nat) : Bool := decide (n < 256)

/-- A number of two bytes. -/
def fits2 (n : Nat) : Bool := decide (n < 65536)

/-- A number of four bytes. -/
def fits4 (n : Nat) : Bool := decide (n < 4294967296)

/-- R181: an entry fits its coding; a port list holds 1 to 4 ports. -/
def EntryBody.fits (b : EntryBody) : Bool :=
  fits2 b.startMin && fits2 b.duration && fits2 b.freq && fits2 b.power && fits1 b.cls &&
    b.ports.all fits1 && decide (1 ≤ b.ports.length ∧ b.ports.length ≤ 4) && fits1 b.programme

/-- R181: the names of READ_ENTRY. -/
def EntryRef.fits : EntryRef → Bool
  | .active n => fits2 n
  | .pending n => fits2 n
  | .override t => fits1 t

/-- R181: a slot or ALL. -/
def EraseRef.fits : EraseRef → Bool
  | .slot n => fits2 n
  | .all => true

/-- R181: a stamp or NOW. -/
def CommitTarget.fits : CommitTarget → Bool
  | .stamp t => fits4 t
  | .now => true

/-- The command is well formed. -/
def Instr.wellFormed : Instr → Bool
  | .setTime d t => fits2 d && fits4 t
  | .readTime => true
  | .writeEntry n _ b => fits2 n && b.fits
  | .readEntry r => r.fits
  | .eraseEntry r => r.fits
  | .copyActive => true
  | .commitBank t => t.fits
  | .disarmBank => true
  | .readBankState => true
  | .putOverride d b => fits2 d && b.fits
  | .dropOverride t => fits1 t
  | .readPlan => true
  | .readMap => true
  | .readPeers => true
  | .readProtection => true
  | .maintHold p => fits1 p
  | .maintRelease p => fits1 p
  | .forceRelease p => fits1 p
  | .clearSuspect p => fits1 p
  | .clearLockout => true
  | .clearFaultLine l => fits2 l
  | .clearDefect p => fits1 p
  | .manualEnter => true
  | .manualPort p c => fits1 p && fits1 c
  | .manualTune f => fits2 f
  | .manualPower p => fits2 p
  | .manualRfOn => true
  | .manualRfOff => true
  | .manualExitNow => true
  | .manualExitAtNext => true
  | .readStatus => true
  | .readReport => true
  | .clearFlags _ => true
  | .setEnables _ => true
  | .setLamp l a b c => fits1 l && fits1 a && fits1 b && fits1 c
  | .restart => true
  | .nvmWrite a d => fits2 a && fits1 d.length
  | .nvmRead a n => fits2 a && fits1 n
  | .unknownCommand n _ => fits1 n
  | .transactionCutShort => true
  | .nvmCommandComplete => true
  | .nvmAckTimeout => true
  | .powerOn => true
  | .resetPin => true
  | .supplyLow => true
  | .configLoadEnd _ => true
  | .startUpReread => true
  | .rollCallWindowEnd => true
  | .internalSecond => true
  | .ppsEdge => true
  | .silenceTimerExpiry => true
  | .bankCheckEnd => true
  | .switchRoles => true
  | .overrideExpiry => true
  | .claimTime => true
  | .changeoverStart => true
  | .giveUpPoint => true
  | .segmentEnd => true
  | .noPortRetry => true
  | .droppedRescan => true
  | .maintClaimRetry => true
  | .manualIntentReoffer => true
  | .refusedFrameReoffer => true
  | .parkedEntryReady => true
  | .lineIdle => true
  | .attemptSpoiled _ => true
  | .frameSpoiled _ _ => true
  | .blockedTimerExpiry => true
  | .contentionWithdrawal => true
  | .intentReceived b p c t => Machine.deliverable b (.intent p c t)
  | .objectReceived b p h r t => Machine.deliverable b (.object p h r t)
  | .holdReceived b p c t => Machine.deliverable b (.hold p c t)
  | .releaseReceived b p f => Machine.deliverable b (.release p f)
  | .suspectReceived b p k => Machine.deliverable b (.suspect p k)
  | .clearReceived b p => Machine.deliverable b (.clear p)
  | .presenceReceived b x => Machine.deliverable b (.presence x)
  | .objectionWindowExpiry p => decide (p ≤ 31)
  | .intentLapse => true
  | .peerSilence => true
  | .presenceInterval => true
  | .conflictTimeout => true
  | .contactReadingChange _ _ _ => true
  | .travelTimerExpiry => true
  | .settleTimerExpiry => true
  | .muteStepTimer => true
  | .guardTimerExpiry => true
  | .clearanceWaitExpiry => true
  | .muteFail => true
  | .rfPresentFall => true
  | .rfPresentRise => true
  | .tuneDone => true
  | .tuneTimerExpiry => true
  | .tuneLoss => true
  | .rampStep => true
  | .restartHoldEnd => true
  | .couplerSample _ _ => true
  | .recoveryTimerExpiry => true
  | .capTimerExpiry => true
  | .arc _ => true
  | .tripAgeing => true
  | .proofRunComplete => true
  | .faultLineLevelChange _ _ => true

end Sys2Proof
end

