-- ==== Sys2Proof/Decode.lean ====
section
/-! DEFINITION. The bytes of a command transaction (R181): the command they spell, and the bytes of a command.
The opcode table gives no row any bits, so no table word spells a command. -/

namespace Sys2Proof

open Machine (byte1 byte2 byte4 byteList entryBytes num2 num4)

/-- The opcode table gives no row any bits: a word spells no command. -/
def decodeTableWord (_nbits _w : Nat) : Option Instr := none

/-! ## Reading a transaction (R181) -/

/-- R181: an entry as its fields, the days or the date taken off before. A port count of 0 or above 4 does not match,
so WRITE_ENTRY is answered BAD_ARGUMENT in CHECKING and ARMED too (DEDUCED, entry 27). -/
def readEntryBody : List Byte → Option EntryBody
  | s1 :: s0 :: d1 :: d0 :: f1 :: f0 :: p1 :: p0 :: c :: n :: rest =>
    if rest.length = n.toNat + 1 ∧ 1 ≤ n.toNat ∧ n.toNat ≤ 4 then
      some { startMin := num2 s1 s0, duration := num2 d1 d0, freq := num2 f1 f0, power := num2 p1 p0,
             cls := c.toNat, ports := (rest.take n.toNat).map BitVec.toNat,
             programme := (rest.getD n.toNat 0).toNat }
    else none
  | _ => none

/-- The command of a number without arguments. -/
def bareCommand : Nat → Option Instr
  | 2 => some .readTime
  | 6 => some .copyActive
  | 8 => some .disarmBank
  | 9 => some .readBankState
  | 12 => some .readPlan
  | 13 => some .readMap
  | 14 => some .readPeers
  | 15 => some .readProtection
  | 20 => some .clearLockout
  | 23 => some .manualEnter
  | 29 => some .readStatus
  | 30 => some .readReport
  | 34 => some .restart
  | _ => none

/-- The command of a number with one byte of argument. -/
def byteCommand (n : Nat) (b : Byte) : Option Instr :=
  match n with
  | 11 => some (.dropOverride b.toNat)
  | 16 => some (.maintHold b.toNat)
  | 17 => some (.maintRelease b.toNat)
  | 18 => some (.forceRelease b.toNat)
  | 19 => some (.clearSuspect b.toNat)
  | 22 => some (.clearDefect b.toNat)
  | 31 => some (.clearFlags b)
  | 32 => some (.setEnables b)
  | 5 => if b = 1 then some (.eraseEntry .all) else none
  | 7 => if b = 1 then some (.commitBank .now) else none
  | 27 => if b = 0 then some .manualRfOn else if b = 1 then some .manualRfOff else none
  | 28 => if b = 0 then some .manualExitNow else if b = 1 then some .manualExitAtNext else none
  | _ => none

/-- The command of a number with two bytes of arguments. -/
def pairCommand (n : Nat) (a b : Byte) : Option Instr :=
  match n with
  | 4 => if a = 2 then some (.readEntry (.override b.toNat)) else none
  | 21 => some (.clearFaultLine (num2 a b))
  | 24 => some (.manualPort a.toNat b.toNat)
  | 25 => some (.manualTune (num2 a b))
  | 26 => some (.manualPower (num2 a b))
  | _ => none

/-- The command of a number with three bytes of arguments. -/
def tripleCommand (n : Nat) (a b c : Byte) : Option Instr :=
  match n with
  | 4 =>
    if a = 0 then some (.readEntry (.active (num2 b c)))
    else if a = 1 then some (.readEntry (.pending (num2 b c)))
    else none
  | 5 => if a = 0 then some (.eraseEntry (.slot (num2 b c))) else none
  | 36 => some (.nvmRead (num2 a b) c.toNat)
  | _ => none

/-- The command of a number with arguments of any length. The lamp of SET_LAMP takes one byte (DESIGN CHOICE,
entry 77). -/
def longCommand (n : Nat) (args : List Byte) : Option Instr :=
  match n, args with
  | 1, [d1, d0, s3, s2, s1, s0] => some (.setTime (num2 d1 d0) (num4 s3 s2 s1 s0))
  | 3, a :: b :: days :: rest => (readEntryBody rest).map (fun e => .writeEntry (num2 a b) days e)
  | 7, [s, a, b, c, d] => if s = 0 then some (.commitBank (.stamp (num4 a b c d))) else none
  | 10, a :: b :: rest => (readEntryBody rest).map (fun e => .putOverride (num2 a b) e)
  | 33, [a, b, c, d] => some (.setLamp a.toNat b.toNat c.toNat d.toNat)
  | 35, a :: b :: k :: data => if data.length = k.toNat then some (.nvmWrite (num2 a b) data) else none
  | _, _ => none

/-- The command whose arguments match, if one does. -/
def matchCommand (n : Nat) (args : List Byte) : Option Instr :=
  (match args with
    | [] => bareCommand n
    | [a] => byteCommand n a
    | [a, b] => pairCommand n a b
    | [a, b, c] => tripleCommand n a b c
    | _ => none).or (longCommand n args)

/-- R181: the argument bytes of an entry's command: `fixed` up to its port count, the ports and the programme. A count
out of range ends the reading there (DEDUCED, entry 27). -/
def entrySize (fixed : Nat) (args : List Byte) : Nat :=
  match args[fixed - 1]? with
  | some k => if 1 ≤ k.toNat ∧ k.toNat ≤ 4 then fixed + k.toNat + 1 else fixed
  | none => fixed

/-- R181: the argument bytes that a command number takes, as far as the bytes read tell, in the forms its selector
names. A number outside the table and a selector past the forms take no more than is there (DEDUCED, entry 27). -/
def argumentSize (n : Nat) (args : List Byte) : Nat :=
  let selector := args.head?.map BitVec.toNat
  match n with
  | 1 => 6
  | 3 => entrySize 13 args
  | 4 => if selector = some 0 ∨ selector = some 1 then 3 else if selector = some 2 then 2 else 1
  | 5 => if selector = some 0 then 3 else 1
  | 7 => if selector = some 0 then 5 else 1
  | 10 => entrySize 12 args
  | 21 => 2
  | 24 => 2
  | 25 => 2
  | 26 => 2
  | 33 => 4
  | 35 => match args[2]? with
    | some k => 3 + k.toNat
    | none => 3
  | 36 => 3
  | 11 => 1
  | 16 => 1
  | 17 => 1
  | 18 => 1
  | 19 => 1
  | 22 => 1
  | 27 => 1
  | 28 => 1
  | 31 => 1
  | 32 => 1
  | _ => 0

/-- R181: the transaction has ended before the last byte of the command that its number names. -/
def endsEarly (n : Nat) (args : List Byte) : Bool := decide (args.length < argumentSize n args)

/-- R181: a transaction that ends before its last byte is cut short, and one whose number or arguments match no command
is an unknown one. -/
def readTransaction : List Byte → Instr
  | [] => .transactionCutShort
  | n :: args =>
    if endsEarly n.toNat args then .transactionCutShort
    else (matchCommand n.toNat args).getD (.unknownCommand n.toNat args)

/-! ## The bytes of a command (R181) -/

/-- The bytes of a host command; none for a row that is no command transaction. -/
def encodeCommand : Instr → Option (List Byte)
  | .setTime d t => some (byte1 1 ++ byte2 d ++ byte4 t)
  | .readTime => some (byte1 2)
  | .writeEntry n days b => some (byte1 3 ++ byte2 n ++ [days] ++ entryBytes b)
  | .readEntry (.active n) => some (byte1 4 ++ byte1 0 ++ byte2 n)
  | .readEntry (.pending n) => some (byte1 4 ++ byte1 1 ++ byte2 n)
  | .readEntry (.override t) => some (byte1 4 ++ byte1 2 ++ byte1 t)
  | .eraseEntry (.slot n) => some (byte1 5 ++ byte1 0 ++ byte2 n)
  | .eraseEntry .all => some (byte1 5 ++ byte1 1)
  | .copyActive => some (byte1 6)
  | .commitBank (.stamp t) => some (byte1 7 ++ byte1 0 ++ byte4 t)
  | .commitBank .now => some (byte1 7 ++ byte1 1)
  | .disarmBank => some (byte1 8)
  | .readBankState => some (byte1 9)
  | .putOverride d b => some (byte1 10 ++ byte2 d ++ entryBytes b)
  | .dropOverride t => some (byte1 11 ++ byte1 t)
  | .readPlan => some (byte1 12)
  | .readMap => some (byte1 13)
  | .readPeers => some (byte1 14)
  | .readProtection => some (byte1 15)
  | .maintHold p => some (byte1 16 ++ byte1 p)
  | .maintRelease p => some (byte1 17 ++ byte1 p)
  | .forceRelease p => some (byte1 18 ++ byte1 p)
  | .clearSuspect p => some (byte1 19 ++ byte1 p)
  | .clearLockout => some (byte1 20)
  | .clearFaultLine l => some (byte1 21 ++ byte2 l)
  | .clearDefect p => some (byte1 22 ++ byte1 p)
  | .manualEnter => some (byte1 23)
  | .manualPort p c => some (byte1 24 ++ byte1 p ++ byte1 c)
  | .manualTune f => some (byte1 25 ++ byte2 f)
  | .manualPower p => some (byte1 26 ++ byte2 p)
  | .manualRfOn => some (byte1 27 ++ byte1 0)
  | .manualRfOff => some (byte1 27 ++ byte1 1)
  | .manualExitNow => some (byte1 28 ++ byte1 0)
  | .manualExitAtNext => some (byte1 28 ++ byte1 1)
  | .readStatus => some (byte1 29)
  | .readReport => some (byte1 30)
  | .clearFlags f => some (byte1 31 ++ [f])
  | .setEnables f => some (byte1 32 ++ [f])
  | .setLamp l a b c => some (byte1 33 ++ byte1 l ++ byte1 a ++ byte1 b ++ byte1 c)
  | .restart => some (byte1 34)
  | .nvmWrite a d => some (byte1 35 ++ byte2 a ++ byte1 d.length ++ d)
  | .nvmRead a n => some (byte1 36 ++ byte2 a ++ byte1 n)
  | _ => none

end Sys2Proof
end

