-- ==== Sys2Proof/Machine/Flags.lean ====
section
/-! DEFINITION. The condition flags, the sticky flags, the interrupt line (R184), the actions of the fault
lines in force (R166), the conflict pause (R106), and the lamps (R185). -/

namespace Sys2Proof.Machine

/-! ## Actions in force (R166) and the RF inhibits (R137) -/

/-- Some line whose flag is SET carries the action. -/
def State.actionInForce (s : State) (f : LineConfig → Bool) : Bool :=
  (List.range 4).any (fun i => (s.lines.line.get i).latched && f (s.cfg.lines.get i))

/-- R158: the mute inhibit. -/
def State.muteInhibit (s : State) : Bool := s.actionInForce LineConfig.mute

/-- R117: the motion hold. -/
def State.motionHold (s : State) : Bool := s.actionInForce LineConfig.holdMotion

/-- R159: a LOCKOUT action in force. -/
def State.lockoutAction (s : State) : Bool := s.actionInForce LineConfig.lockout

/-- R106: the conflict pause is in force while the conflict set is not empty. -/
def State.conflictPause (s : State) : Bool := !s.hall.conflicts.isEmpty

/-- R137: the causes that PAUSED obeys. -/
def State.rfInhibit (s : State) : Bool := s.muteInhibit || s.conflictPause

/-! ## Condition flags (R184) -/

/-- R121. -/
def State.lockedFlag (s : State) : Bool := decide (s.seq.state = .locked)

/-- R121. -/
def State.matrixFaultFlag (s : State) : Bool := decide (s.seq.state = .matrixFault)

/-- R7. -/
def State.holdoverFlag (s : State) : Bool := decide (s.time.quality = .holdover)

/-- R172. -/
def State.manualFlag (s : State) : Bool := s.manual.flag

/-! ## Sticky flags and the interrupt line (R184) -/

/-- R184: clears each flag named in the set; the spare bits are not read (DESIGN CHOICE, entry 27). -/
def clearSticky (set : Byte) (f : Sticky) : Sticky :=
  { reportLost := f.reportLost && !set.getLsbD 0, busFaultSeen := f.busFaultSeen && !set.getLsbD 1,
    tripSeen := f.tripSeen && !set.getLsbD 2,
    configFaultSeen := f.configFaultSeen && !set.getLsbD 3 }

/-- R181: a set of enables in one byte; the spare bits are not read (DESIGN CHOICE, entry 27). -/
def enablesOf (set : Byte) : Enables :=
  { reportLost := set.getLsbD 0, busFaultSeen := set.getLsbD 1, tripSeen := set.getLsbD 2,
    configFaultSeen := set.getLsbD 3, queue := set.getLsbD 4 }

/-- R184: the interrupt line. -/
def State.interrupt (s : State) : Bool :=
  (s.sup.enables.queue && !s.sup.reports.isEmpty)
    || (s.sup.enables.reportLost && s.sup.sticky.reportLost)
    || (s.sup.enables.busFaultSeen && s.sup.sticky.busFaultSeen)
    || (s.sup.enables.tripSeen && s.sup.sticky.tripSeen)
    || (s.sup.enables.configFaultSeen && s.sup.sticky.configFaultSeen)

/-! ## Lamps (R185) -/

/-- R121: a changeover is in flight. -/
def SeqState.inFlight : SeqState → Bool
  | .muting => true
  | .guarding => true
  | .reposition => true
  | .ramping => true
  | _ => false

/-- R185: what makes each source active. -/
def State.sourceActive (s : State) : LampSource → Bool
  | .onAir => decide (s.seq.state = .onAir)
  | .changeover => s.seq.state.inFlight
  | .portHeld => (List.range 32).any (fun p => s.ownHeld p)
  | .foldback => s.prot.foldback
  | .lockout => s.prot.lockout.isSome
  | .anyFaultLine => (List.range 4).any (fun i => (s.lines.line.get i).latched)
  | .timeNotLocked => decide (s.time.quality ≠ .locked)
  | .busFault => s.link.busFault
  | .tableMismatch => (List.range 16).any (fun b => (s.hall.peers.get b).mismatch)
  | .always => true
  | .never => false

/-- R185: the blink phase, shared by the four lamps. -/
def State.blinkOn (s : State) : Blink → Bool
  | .steady => true
  | .slow => decide ((s.time.osc - s.sup.blinkZero) % 1000 < 500)
  | .fast => decide ((s.time.osc - s.sup.blinkZero) % 250 < 125)

/-- R185: a lamp is dark until the load ends; then lit while source and phase are on, or with invert while
they are not. -/
def State.lampLit (s : State) (i : Nat) : Bool :=
  let l := s.sup.lamps.get i
  decide (s.start.step ≠ .load) && (xor (s.sourceActive l.source && s.blinkOn l.blink) l.invert)

end Sys2Proof.Machine
end

