-- ==== Sys2Proof/Machine/Link.lean ====
section
/-! DEFINITION. The hall bus link: the transmit queue with its offers, withdrawals, spoils and drops, the
blocked timer, and the attempts of the line engine (chapter 4). -/

namespace Sys2Proof.Machine

/-! ## The queue -/

/-- The link is in an attempt. -/
def Engine.attempting : Engine → Bool
  | .contending => true
  | .sending => true
  | _ => false

/-- The oldest entry is READY (R67). -/
def Link.headReady (l : Link) : Bool :=
  match l.queue with
  | e :: _ => e.parkedUntil.isNone
  | [] => false

/-- The entry is a PRESENCE. -/
def TxEntry.isPresence (e : TxEntry) : Bool :=
  match e.frame with
  | .presence _ => true
  | _ => false

/-- R71: the blocked timer runs while the oldest entry is READY outside an attempt on a line that has not
been idle; 50 ms from when that begins. A timer that runs goes on when the oldest entry is removed outside an
attempt and another READY entry becomes the oldest (DESIGN CHOICE, entry 42). -/
def Link.retime (osc : Nat) (l : Link) : Link :=
  if l.headReady && !l.engine.attempting && !l.lineIdle then
    { l with blocked := some (l.blocked.getD (osc + 50)) }
  else { l with blocked := none }

/-- R71: the same with the timer started afresh, at the end of an attempt and at an expiry. -/
def Link.restartTimer (osc : Nat) (l : Link) : Link := Link.retime osc { l with blocked := none }

/-- Rewrites the link and keeps its blocked timer. -/
def State.setLink (f : Link → Link) (s : State) : State :=
  { s with link := (f s.link).retime s.time.osc }

/-- R68: a PRESENCE entry outside an attempt is the one removed at a full queue. -/
def Link.dropPresence (l : Link) : Option (List TxEntry) :=
  match l.queue with
  | [] => none
  | e :: rest =>
    if e.isPresence then (if l.engine.attempting then none else some rest)
    else if rest.any TxEntry.isPresence then some (e :: rest.eraseP TxEntry.isPresence) else none

/-- R68: flags joined to the held PRESENCE entry. -/
def joinFlags (b : PresenceBody) (e : TxEntry) : TxEntry :=
  match e.frame with
  | .presence h =>
    let both := { h with rollCall := h.rollCall || b.rollCall, restarted := h.restarted || b.restarted }
    { e with frame := .presence both }
  | _ => e

/-- R68: the queue after an offer, and whether the offer is answered TAKEN. The resend count belongs to the oldest
entry (R67), so it returns to 0 when that entry is the PRESENCE that gives way. -/
def Link.offer (f : Frame) (refresh : Bool) (l : Link) (asked : Bool := false) : Link × Bool :=
  let e : TxEntry :=
    { frame := f, parkedUntil := none, withdrawn := false, refresh := refresh, asked := asked }
  match f with
  | .presence b =>
    if l.queue.any TxEntry.isPresence then
      ({ l with queue := l.queue.map (fun x => if x.isPresence then joinFlags b x else x) }, true)
    else if l.queue.length < 8 then ({ l with queue := l.queue ++ [e] }, true)
    else (l, true)
  | _ =>
    if l.queue.length < 8 then ({ l with queue := l.queue ++ [e] }, true)
    else
      match l.dropPresence with
      | some q =>
        ({ l with queue := q ++ [e],
                  resend := if l.queue.head?.any TxEntry.isPresence then 0 else l.resend }, true)
      | none => (l, false)

/-- R99: the bay offers no frame before the PRESENCE of step 5. -/
def State.mayOffer (s : State) : Bool :=
  match s.start.step with
  | .rollCall => true
  | .done => true
  | _ => false

/-- R68, R99: an offer of the claim unit; false when the link answers REFUSED. -/
def offer (f : Frame) (refresh : Bool) (s : State) (asked : Bool := false) : State × Bool :=
  if s.mayOffer then
    (s.setLink (fun l => (l.offer f refresh asked).1), (s.link.offer f refresh asked).2)
  else (s, false)

/-- R69: a HOLD, RELEASE, SUSPECT or CLEAR that is refused is offered again 1 elapsed second later. -/
def offerKept (f : Frame) (refresh : Bool) (s : State) (asked : Bool := false) : State :=
  let r := offer f refresh s asked
  if r.2 then r.1
  else { r.1 with hall := { r.1.hall with
          refused := r.1.hall.refused ++ [⟨f, refresh, r.1.time.elapsed + 1, asked⟩] } }

/-- R69: a refused OBJECT is discarded, and a PRESENCE is never refused. -/
def offerLoose (f : Frame) (s : State) : State := (offer f false s).1

/-! ## The frames the claim unit offers -/

/-- R94: RELEASE (port, for-bay). -/
def offerRelease (p forBay : Nat) (s : State) : State := offerKept (.release p forBay) false s

/-- R93: a refreshed HOLD, offered only for a port the map shows HELD or MAINT by this bay. -/
def refreshHold (p cls : Nat) (release : Option Nat) (s : State) : State :=
  if s.ownTaken p then offerKept (.hold p cls (stampCode release)) true s else s

/-- R48, R93: the refreshed HOLD that a claim in NONE waits for. -/
def askHold (p cls : Nat) (release : Option Nat) (s : State) : State :=
  if s.ownTaken p then offerKept (.hold p cls (stampCode release)) true s (asked := true) else s

/-- R99: the held port a PRESENCE states. -/
def State.statedPort (s : State) : Option Nat :=
  if s.seq.state = .configFault then s.closedPorts.head?
  else
    match s.heldPort with
    | some p => some p
    | none => (List.range 32).find? (fun p => s.ownHeld p)

/-- R68, R99: the body a PRESENCE takes at the start of an attempt. -/
def State.fillPresence (s : State) (b : PresenceBody) : PresenceBody :=
  { rollCall := b.rollCall, restarted := b.restarted,
    configFault := decide (s.seq.state = .configFault), reason := resetCode s.start.reason,
    signature := s.cfg.signature, held := portCode s.statedPort,
    release := stampCode (s.statedPort.bind (fun p => (s.portRec p).mark.release)),
    maint := (s.hall.maint.filter (fun e => e.state = .held)).map MaintEntry.port,
    suspects := s.hall.suspects }

/-- The frame of an entry as it goes on the line. -/
def State.sentFrame (s : State) (e : TxEntry) : Frame :=
  match e.frame with
  | .presence b => .presence (s.fillPresence b)
  | f => f

/-- R99: a PRESENCE offer, counted from for the next one. -/
def offerPresence (rollCall restarted : Bool) (s : State) : State :=
  let b : PresenceBody :=
    { rollCall := rollCall, restarted := restarted, configFault := false, reason := 0, signature := 0,
      held := 255, release := stampNone, maint := [], suspects := [] }
  let s1 := offerLoose (.presence b) s
  { s1 with hall := { s1.hall with lastPresence := s1.time.elapsed } }

/-! ## Attempts (R60, R61, R65 to R67) -/

/-- R60: the idle count reaches 12: SYNC is left, and the oldest READY entry contends. -/
def lineGoesIdle (s : State) : State :=
  if s.link.engine.attempting then s
  else
    match s.link.queue with
    | e :: _ =>
      if e.parkedUntil.isNone then
        s.setLink (fun l => { l with engine := .contending, lineIdle := false,
                                     attempt := some (s.sentFrame e) })
      else s.setLink (fun l => { l with engine := .idle, lineIdle := true })
    | [] => s.setLink (fun l => { l with engine := .idle, lineIdle := true })

/-- R66: the frame read off the line is the one of this bay's own attempt. -/
def State.isEcho (s : State) (sender : Nat) (f : Frame) : Bool :=
  decide (sender = s.bay) && s.link.engine.attempting && decide (s.link.attempt = some f)

/-- R60: another station's start bit is read on the line. -/
def anotherStarts (s : State) : State :=
  s.setLink (fun l => { l with engine := .receiving, lineIdle := false })

/-- The claim-time frames, which alone are withdrawn (R91): an INTENT, and the HOLD of a claim. -/
def TxEntry.withdrawable (e : TxEntry) : Bool :=
  match e.frame with
  | .intent _ _ _ => true
  | .hold _ _ _ => !e.refresh
  | _ => false

/-- R70: how an entry left the queue of itself is kept for a withdrawal that comes after. -/
def Link.depart (e : TxEntry) (sent : Bool) (l : Link) : Link :=
  if e.withdrawable then { l with departed := ((e.frame, sent) :: l.departed).take 8 } else l

/-- R70: the answer to a withdrawal that the end of the entry's attempt decides. -/
def Link.answerAt (e : TxEntry) (w : Withdrawal) (l : Link) : Link :=
  if e.withdrawn then { l with answer := some w } else l

/-- The link with the departure of its oldest entry noted. -/
def Link.headSent (l : Link) : Link :=
  match l.queue with
  | e :: _ => (l.depart e true).answerAt e .sent
  | [] => l

/-- R67, R70, R72: an attempt sent whole: the entry leaves, the count returns to 0 and bus fault lifts. The engine is
shown IDLE from here (DESIGN CHOICE, entry 51). -/
def sentWhole (s : State) : State :=
  s.setLink (fun l => { l.headSent with engine := .idle, lineIdle := false, queue := l.queue.tail, resend := 0,
                                        attempt := none, busFault := false, blocked := none })

/-- R70: the link with the oldest entry taken away if it is marked withdrawn. -/
def Link.dropWithdrawn (l : Link) : Link :=
  match l.queue with
  | e :: rest => if e.withdrawn then { l with queue := rest, resend := 0, answer := some .removed } else l
  | [] => { l with resend := 0 }

/-- R61: the attempt ends by withdrawal; R70: an entry marked withdrawn is then removed. -/
def contentionLost (s : State) : State :=
  { s with link := { s.link.dropWithdrawn with
      engine := .receiving, lineIdle := false, attempt := none }.restartTimer s.time.osc }

/-- R60, R61: the link as a receiver of another station's frame: an attempt in flight withdraws, and an idle link
reads the start bit. -/
def becomeReceiver (s : State) : State :=
  if s.link.engine.attempting then contentionLost s else anotherStarts s

/-- The port a frame carries, for BUS_FAULT and READ_PEERS; none for PRESENCE. -/
def framePort : Frame → Option Nat
  | .object p _ _ _ => some p
  | .release p _ => some p
  | .hold p _ _ => some p
  | .intent p _ _ => some p
  | .suspect p _ => some p
  | .clear p => some p
  | .presence _ => none

/-- R69: HOLD, RELEASE, SUSPECT and CLEAR are parked at a drop; the other kinds are removed. -/
def parks : Frame → Bool
  | .release _ _ => true
  | .hold _ _ _ => true
  | .suspect _ _ => true
  | .clear _ => true
  | _ => false

/-- R67, R69, R72: the drop of the oldest entry. -/
def dropHead (e : TxEntry) (rest : List TxEntry) (s : State) : State :=
  let fresh := !s.link.busFault
  let s1 : State :=
    { s with link := { (if parks e.frame then s.link else s.link.depart e false) with
        queue := if parks e.frame then { e with parkedUntil := some (s.time.elapsed + 1) } :: rest else rest,
        resend := 0, drops := min 65535 (s.link.drops + 1), busFault := true } }
  if fresh then
    let s2 := file .busFault ((framePort e.frame).getD s.bay)
      (frameKindCode e.frame * 65536 + s1.link.drops) s1
    { s2 with sup := { s2.sup with sticky := { s2.sup.sticky with busFaultSeen := true } } }
  else s1

/-- The port, class and start stamp of an INTENT. -/
def intentTuple : Frame → Option (Nat × Nat × Nat)
  | .intent p cls start => some (p, cls, start)
  | _ => none

/-- R67: one spoil of the oldest entry; with it what an INTENT that was dropped by it carried. -/
def spoilHead (s : State) : State × Option (Nat × Nat × Nat) :=
  match s.link.queue with
  | [] => (s, none)
  | e :: rest =>
    if e.withdrawn then ({ s with link := s.link.dropWithdrawn }, none)
    else if s.link.resend + 1 < 8 then
      ({ s with link := { s.link with resend := s.link.resend + 1 } }, none)
    else
      (dropHead e rest s, intentTuple e.frame)

/-- R65: the sender's attempt ends spoiled. Before the tail guard it drives a spoil run, and in it the engine is shown
IDLE (DESIGN CHOICE, entry 51). -/
def attemptEndsSpoiled (inTailGuard : Bool) (s : State) : State × Option (Nat × Nat × Nat) :=
  let s1 : State := { s with link := { s.link with
    engine := if inTailGuard then .idle else .spoiling, lineIdle := false, attempt := none } }
  let r := spoilHead s1
  ({ r.1 with link := r.1.link.restartTimer r.1.time.osc }, r.2)

/-! ## Withdrawal (R70) -/

/-- R70: the answer for a frame that is in the queue no more: SENT or NOT_FOUND by how it left. -/
def Link.departureAnswer (p : Frame → Bool) (l : Link) : Withdrawal :=
  match l.departed.find? (fun d => p d.1) with
  | some d => if d.2 then .sent else .notFound
  | none => .notFound

/-- R70: the link after a withdrawal of the oldest matching entry, with the answer; `refused` says that the frame
was waiting to be offered again, which acts as REMOVED (R91). -/
def Link.withdraw (p : Frame → Bool) (refused : Bool) (l : Link) : Link :=
  let hit (e : TxEntry) : Bool := p e.frame && !e.refresh && !e.withdrawn
  let absent := if refused then Withdrawal.removed else l.departureAnswer p
  match l.queue with
  | [] => { l with answer := some absent }
  | e :: rest =>
    if hit e then
      (if l.engine.attempting then { l with queue := { e with withdrawn := true } :: rest, answer := none }
       else { l with queue := rest, resend := 0, answer := some .removed })
    else
      { l with queue := e :: rest.eraseP hit,
               answer := some (if rest.any hit then .removed else absent) }

/-- R70: withdraws the oldest matching entry: marked while in its attempt, removed otherwise; a match
refused at a full queue is no longer offered again (R91). -/
def withdrawFrame (p : Frame → Bool) (s : State) : State :=
  let waits (r : RefusedFrame) : Bool := p r.frame && !r.refresh
  let s1 : State :=
    { s with hall := { s.hall with refused := s.hall.refused.filter (fun r => !waits r) } }
  s1.setLink (Link.withdraw p (s.hall.refused.any waits))

/-- The HOLD of a port. -/
def isHoldFor (p : Nat) : Frame → Bool
  | .hold q _ _ => q = p
  | _ => false

/-- The HOLD of a claim on a port with its class; a maintenance claim has class 0 and a schedule claim has not. -/
def isClaimHold (p cls : Nat) : Frame → Bool
  | .hold q c _ => q = p && c = cls
  | _ => false

/-- R94: a RELEASE of this bay for its own mark is in the queue or waits to be offered again. -/
def State.releaseQueued (s : State) (p : Nat) : Bool :=
  let own (f : Frame) : Bool := decide (f = .release p s.bay)
  s.link.queue.any (fun e => own e.frame) || s.hall.refused.any (fun r => own r.frame)

/-- R91: a refreshed HOLD asked for a claim that is abandoned is asked for no more: refused at a full queue it is
not offered again, and one in the queue goes out for no claim. -/
def dropAsked (p : Nat) (s : State) : State :=
  { s with
    hall := { s.hall with
      refused := s.hall.refused.filter (fun r => !(r.asked && isHoldFor p r.frame)) },
    link := { s.link with
      queue := s.link.queue.map (fun e => if isHoldFor p e.frame then { e with asked := false } else e) } }

/-- R69: parked entries whose count is reached become READY. -/
def unpark (s : State) : State :=
  s.setLink fun l => { l with queue := l.queue.map (fun e =>
    if e.parkedUntil.any (fun c => decide (c ≤ s.time.elapsed)) then { e with parkedUntil := none } else e) }

/-- R69: the refused frames that are due are offered again in their order; R93 asks a refreshed HOLD for
an own mark again. -/
def reofferRefused (s : State) : State :=
  let due := s.hall.refused.filter (fun r => decide (r.due ≤ s.time.elapsed))
  let rest := s.hall.refused.filter (fun r => !decide (r.due ≤ s.time.elapsed))
  due.foldl
    (fun acc r =>
      if r.refresh && !acc.ownTaken ((framePort r.frame).getD 0) then acc
      else offerKept r.frame r.refresh acc (asked := r.asked))
    { s with hall := { s.hall with refused := rest } }

end Sys2Proof.Machine
end

