-- ==== Sys2Proof/Machine/Occupancy.lean ====
section
/-! DEFINITION. The occupancy map: rank and availability (R76, R77), the receipt rules on the map (R80 to
R86), and the peer table (R98, R100). -/

namespace Sys2Proof.Machine

/-! ## Rank and availability -/

/-- R77: the rank tuple (class, start stamp, bay) of the first is better than that of the second. -/
def rankBetter (c1 s1 b1 c2 s2 b2 : Nat) : Bool :=
  decide (c1 < c2 ∨ (c1 = c2 ∧ (s1 < s2 ∨ (s1 = s2 ∧ b1 < b2))))

/-- R76: the mark of q, a port of p's curtain, keeps this bay's claim (class, start) off p. -/
def State.markBlocks (s : State) (p cls start q : Nat) : Bool :=
  match (s.portRec q).mark with
  | .free => false
  | .intended o c st _ => decide (o ≠ s.bay) && rankBetter c st o cls start s.bay
  | .held o _ _ => decide (o ≠ s.bay)
  | .maint o _ _ => decide (o ≠ s.bay) || decide (q ≠ p)

/-- The ports whose marks keep the claim off p. -/
def State.blockers (s : State) (p cls start : Nat) : List Nat :=
  (s.cfg.curtainPorts p).filter (fun q => s.markBlocks p cls start q)

/-- R76: the port is not suspect, lies in band for the frequency, if one is given, and is not flagged;
a port being given up under R105 is out of the targets until its RELEASE has come back (DEDUCED, entry 8). -/
def State.portSound (s : State) (p : Nat) (freq : Option Nat) : Bool :=
  (s.portRec p).suspect.isNone && freq.all (fun f => s.cfg.inBand p f)
    && (s.point p).defect.isNone && !s.hall.yielding.contains p

/-- R76: available for a schedule or manual claim. -/
def State.available (s : State) (p cls start : Nat) (freq : Option Nat) : Bool :=
  s.portSound p freq && (s.blockers p cls start).isEmpty

/-- R42: open to a scan of the schedule: available, or HELD by this bay and sound. R76 lets another bay's mark on the
curtain, or an own MAINT on another port of it, keep a port HELD by this bay off too; a scan goes by R42 (DESIGN CHOICE,
entry 97). -/
def State.scannable (s : State) (p cls start : Nat) (freq : Option Nat) : Bool :=
  s.portSound p freq && (s.ownHeld p || (s.blockers p cls start).isEmpty)

/-- R76, R96: available for a maintenance claim: band and defect flags play no part. -/
def State.maintAvailable (s : State) (p start : Nat) : Bool :=
  (s.portRec p).suspect.isNone && (s.blockers p 0 start).isEmpty

/-! ## Receipt rules on the map -/

/-- R80. -/
def receiptIntent (b p cls start : Nat) (s : State) : State :=
  s.setPort p fun r =>
    let fresh : PortRecord := { r with mark := .intended b cls start (s.time.elapsed + 3), standing := none }
    match r.mark with
    | .free => fresh
    | .intended o c st _ => if o = b ∨ rankBetter cls start b c st o then fresh else r
    | _ => r

/-- R81, R82: the INTENDED marks of other bays on p's curtain become FREE. -/
def freeIntents (b p : Nat) (s : State) : State :=
  { s with hall := { s.hall with map := s.hall.map.mapIdx fun q r =>
      match r.mark with
      | .intended o _ _ _ =>
        if o ≠ b ∧ s.cfg.sameCurtain p q then { r with mark := .free, standing := none } else r
      | _ => r } }

/-- The standing an own mark has after it is set by a frame. A new own mark that is made by the bay's own OBJECT
echo, or by a frame that carries this bay's number with its own mark clear, is UNCONFIRMED: R78 names no
standing for it (DESIGN CHOICE, entry 46). -/
def keptStanding (s : State) (b : Nat) (r : PortRecord) : Option Standing :=
  if b = s.bay then some (r.standing.getD .unconfirmed) else none

/-- R82: the hold itself: HELD by b, or MAINT by b when the class is 0, unless another bay holds p. -/
def enterHold (b p cls : Nat) (release : Option Nat) (s : State) : State :=
  s.setPort p fun r =>
    if r.mark.taken && !r.mark.takenBy b then r
    else { r with mark := if cls = 0 then .maint b cls release else .held b cls release,
                  standing := keptStanding s b r }

/-- R82. -/
def receiptHold (b p cls : Nat) (release : Option Nat) (s : State) : State :=
  freeIntents b p (enterHold b p cls release s)

/-- R81: an OBJECT refreshes the sender's hold on h. -/
def receiptObject (b h reason : Nat) (release : Option Nat) (s : State) : State :=
  freeIntents b h (s.setPort h fun r =>
    if r.mark.taken && !r.mark.takenBy b then r
    else
      let cls := if r.mark.takenBy b then r.mark.cls else if reason = 0 then 3 else 0
      { r with mark := if reason = 0 then .held b cls release else .maint b cls release,
               standing := keptStanding s b r })

/-- R83: the mark becomes FREE when its owner is the for-bay. -/
def receiptRelease (p forBay : Nat) (s : State) : State :=
  s.setPort p fun r =>
    if r.mark.owner = some forBay then { r with mark := .free, standing := none } else r

/-- R84. -/
def receiptSuspect (b p cause : Nat) (s : State) : State :=
  s.setPort p fun r => { r with suspect := some (b, cause) }

/-- R84: the suspect field becomes absent, and the port leaves the own suspect list; R160: a proof run on
a port that leaves the list stops. -/
def receiptClear (p : Nat) (s : State) : State :=
  let s1 := s.setPort p fun r => { r with suspect := none }
  { s1 with
    hall := { s1.hall with suspects := s1.hall.suspects.filter (fun q => decide (q.1 ≠ p)) },
    prot := { s1.prot with proof := s1.prot.proof.filter (fun r => decide (r.1 ≠ p)) } }

/-- R85: the marks of b's stated holds, and FREE for every other HELD or MAINT mark of b. -/
def receiptPresence (b : Nat) (body : PresenceBody) (s : State) : State :=
  let s1 :=
    if body.held = 255 then s
    else
      let m := (s.portRec body.held).mark
      receiptHold b body.held (if m.heldBy b then m.cls else 3) (stampOf body.release) s
  let s2 := body.maint.foldl (fun acc q => receiptHold b q 0 none acc) s1
  let unstated (q : Nat) (r : PortRecord) : PortRecord :=
    if r.mark.takenBy b && decide (q ≠ body.held) && !body.maint.contains q then
      { r with mark := .free, standing := none }
    else r
  { s2 with hall := { s2.hall with map := s2.hall.map.mapIdx unstated } }

/-- R86: every INTENDED mark whose lapse count is reached becomes FREE. -/
def lapseIntents (s : State) : State :=
  { s with hall := { s.hall with map := s.hall.map.mapIdx fun _ r =>
      match r.mark with
      | .intended _ _ _ l => if l ≤ s.time.elapsed then { r with mark := .free, standing := none } else r
      | _ => r } }

/-- R107, R139: a closed crosspoint entered HELD by this bay, class 3, release none, UNCONFIRMED. -/
def enterClosed (p : Nat) (s : State) : State :=
  s.setPort p fun r => { r with mark := .held s.bay 3 none, standing := some .unconfirmed }

/-- R107: a kept maintenance hold entered MAINT by this bay, class 0, release none, UNCONFIRMED. -/
def enterMaint (p : Nat) (s : State) : State :=
  s.setPort p fun r => { r with mark := .maint s.bay 0 none, standing := some .unconfirmed }

/-! ## Peers -/

/-- Rewrites one peer record. -/
def State.setPeer (b : Nat) (f : PeerRecord → PeerRecord) (s : State) : State :=
  { s with hall := { s.hall with peers := s.hall.peers.put b (f (s.hall.peers.get b)) } }

/-- R98: a frame taken from bay b makes b PRESENT; from SILENT this files PEER_BACK. -/
def heardFrom (b : Nat) (s : State) : State :=
  let r := s.hall.peers.get b
  let s1 := s.setPeer b fun x => { x with presence := .present, lastFrame := s.time.elapsed }
  if r.presence = .silent then file .peerBack b (elapsedCount (s.time.elapsed - r.lastFrame)) s1 else s1

/-- R98, R100: the body of a PRESENCE, and the mismatch flag with its report at each change. -/
def peerStates (b : Nat) (body : PresenceBody) (s : State) : State :=
  let was := (s.hall.peers.get b).mismatch
  let is := decide (body.signature ≠ s.cfg.signature)
  let s1 := s.setPeer b fun x => { x with body := some body, mismatch := is }
  if was = is then s1
  else file .tableMismatch b ((if is then 65536 else 0) + body.signature) s1

/-- R98: at a second counted, every PRESENT peer 7 or more seconds old becomes SILENT. -/
def silencePeers (s : State) : State :=
  (List.range 16).foldl
    (fun acc b =>
      let r := acc.hall.peers.get b
      if r.presence = .present ∧ r.lastFrame + 7 ≤ acc.time.elapsed then
        file .peerSilent b (elapsedCount r.lastFrame) (acc.setPeer b fun x => { x with presence := .silent })
      else acc)
    s

end Sys2Proof.Machine
end

