-- ==== Sys2Proof/Machine/Protection.lean ====
section
/-! DEFINITION. The protection unit's arithmetic: target, reflection, foldback, restart cap and power demand
(R144 to R152). -/

namespace Sys2Proof.Machine

/-! ## Demand (R151) -/

/-- R151: the ramp value after k expiries of the step timer. -/
def State.rampValue (s : State) : Nat := min s.prot.target (s.seq.stepCount * s.prot.step)

/-- R124, R151: the mute value after the steps taken, which never exceeds T. -/
def State.muteValue (s : State) : Nat := min s.prot.target (s.seq.muteDemand * (5 - s.seq.muteStep) / 5)

/-- R151: the ramp value, or the mute value in its place. -/
def State.valueInUse (s : State) : Nat := if s.seq.state = .muting then s.muteValue else s.rampValue

/-- R151: the power demand. -/
def State.demandNow (s : State) : Nat :=
  if s.seq.permit then min s.valueInUse (min s.prot.limit s.prot.cap) else 0

/-- R151: D worked out again and sent. -/
def refreshDemand (s : State) : State := { s with prot := { s.prot with demand := s.demandNow } }

/-! ## Target (R144) and what follows it -/

/-- R144: the target of the current assignment; the rating with none. -/
def State.targetNow (s : State) : Nat :=
  match s.seq.current with
  | none => s.cfg.rating
  | some c =>
    match c.port with
    | some p => min c.power (min s.cfg.rating (s.cfg.portMax p))
    | none => min c.power s.cfg.rating

/-- R149, R150: foldback ends: L is at the target, which may be a fall of L below the lowest limit. -/
def foldbackEnds (s : State) : State :=
  let low := min s.prot.lowest s.prot.target
  let lifted : State :=
    { s with prot := { s.prot with
        limit := s.prot.target, lowest := low, foldback := false, recoveryTimer := none } }
  file .foldbackOff (portCode (s.seq.current.bind (fun c => c.port))) low lifted

/-- R149, R150: what a new target does to the foldback limit. While INACTIVE the lowest limit stands (DESIGN CHOICE,
entry 62). -/
def retargetLimit (s : State) : State :=
  if s.prot.foldback then (if s.prot.target ≤ s.prot.limit then foldbackEnds s else s)
  else { s with prot := { s.prot with limit := s.prot.target } }

/-- R152: what a new target does to the restart cap. -/
def retargetCap (p : Protection) : Protection :=
  match p.capState with
  | .full => { p with cap := p.target }
  | .reduced => { p with cap := p.target / 2 }
  | .recovering =>
    if p.target ≤ p.cap then { p with capState := .full, cap := p.target, capTimer := none } else p

/-- R160: a change of the assignment's port stops a proof run. -/
def proofForPort (port : Option Nat) (p : Protection) : Protection :=
  { p with proof := p.proof.filter (fun r => decide (port = some r.1)) }

/-- R144: T worked out again, with the step size, the limit, the cap and the demand. -/
def retarget (s : State) : State :=
  let t := s.targetNow
  let p1 : Protection := { s.prot with target := t, step := ceilDiv t 10 }
  let s1 : State := { s with prot := proofForPort (s.seq.current.bind (fun c => c.port)) p1 }
  let s2 := if t = s.prot.target then s1 else retargetLimit s1
  refreshDemand { s2 with prot := retargetCap s2.prot }

/-! ## Reflection (R145, R146, R148) -/

/-- R146: the reflection ratio in per mille. -/
def rhoOf (vf vr : Nat) : Nat := if vf ≤ vr then 999 else 1000 * vr / vf

/-- R146: S, clamped to 9999. -/
def sOf (rho : Nat) : Nat := min 9999 (100 * (1000 + rho) / (1000 - rho))

/-- R148: the foldback fraction. -/
def fOf (c : Params) (s : Nat) : Nat :=
  if s ≤ c.sW then 1000
  else if s < c.sT then max c.fMin (1000 * (c.sT - s) / (c.sT - c.sW))
  else c.fMin

/-- R145: the forward power estimate, clamped to 65 535. -/
def pfOf (c : Params) (vf : Nat) : Nat := min 65535 (vf * vf * c.kCal / 1048576)

/-- R145, R146: the results of a sample. -/
def sampleOf (c : Params) (vf vr : Nat) : Sample :=
  if vf < c.vMin then
    { counted := false, vf := vf, vr := vr, rho := 0, s := 100, f := 1000, pf := pfOf c vf }
  else
    { counted := true, vf := vf, vr := vr, rho := rhoOf vf vr, s := sOf (rhoOf vf vr),
      f := fOf c (sOf (rhoOf vf vr)), pf := pfOf c vf }

/-! ## Foldback (R149, R150) -/

/-- R149: the candidate limit. -/
def candidate (t f : Nat) : Nat := t * f / 1000

/-- R149, R150: a sample acts on the limit, the ceiling and the recovery timer. -/
def foldbackSample (x : Sample) (s : State) : State :=
  let cand := candidate s.prot.target x.f
  if cand < s.prot.limit then
    let low : State :=
      { s with prot := { s.prot with
          limit := cand, ceiling := some cand, recoveryTimer := none, foldback := true,
          lowest := if s.prot.foldback then min s.prot.lowest cand else cand } }
    if s.prot.foldback then low
    else
      file .foldbackOn (portCode (s.seq.current.bind (fun c => c.port))) (x.s * 65536 + x.f) low
  else if cand = s.prot.limit then
    { s with prot := { s.prot with ceiling := some cand, recoveryTimer := none } }
  else
    { s with prot := { s.prot with
        ceiling := some cand,
        recoveryTimer := if s.prot.foldback then some (s.prot.recoveryTimer.getD (s.after s.cfg.tStep))
                         else none } }

/-- R150: an expiry of the recovery timer. -/
def recoveryStep (s : State) : State :=
  match s.prot.ceiling with
  | none => { s with prot := { s.prot with recoveryTimer := none } }
  | some ceil =>
    let l := min ceil (s.prot.limit + s.prot.step)
    let s1 : State :=
      { s with prot := { s.prot with
          limit := l, recoveryTimer := if l < ceil then some (s.after s.cfg.tStep) else none } }
    if s.prot.target ≤ l then foldbackEnds s1 else s1

/-! ## Restart cap (R152) -/

/-- R152: an expiry of the cap timer. -/
def capStep (s : State) : State :=
  let k := min s.prot.target (s.prot.cap + s.prot.step)
  if k = s.prot.target then
    { s with prot := { s.prot with cap := k, capState := .full, capTimer := none } }
  else { s with prot := { s.prot with cap := k, capTimer := some (s.after s.cfg.tStep) } }

/-- R156: the entries that stay after ageing. -/
def unagedTrips (window elapsed : Nat) (l : List Trip) : List Trip :=
  l.filter (fun t => decide (elapsed < t.elapsed + window))

/-- R156, R152: ageing, and the recovery of a REDUCED cap when it empties the list. -/
def ageTrips (s : State) : State :=
  let left := unagedTrips s.cfg.tripWindow s.time.elapsed s.prot.trips
  let s1 : State := { s with prot := { s.prot with trips := left } }
  if left.isEmpty && !s.prot.trips.isEmpty && decide (s.prot.capState = .reduced) then
    { s1 with prot := { s1.prot with capState := .recovering, cap := s1.prot.target / 2,
                                     capTimer := some (s1.after s1.cfg.tStep) } }
  else s1

end Sys2Proof.Machine
end

