-- ==== Sys2Proof/Machine/Planner.lean ====
section
/-! DEFINITION. Claims and the planner (chapter 3, R87 to R93): whose claim it is, the scan, the hand-over of
a port, the abandonment of a claim, the forming of the next record and its re-planning. -/

namespace Sys2Proof.Machine

/-! ## Whose claim -/

/-- Who a claim belongs to. -/
inductive Holder where
  | current
  | next
  | manual
  | maint (port : Nat)
  deriving DecidableEq, Repr, Inhabited

/-- The record of a schedule claim. -/
def State.record (s : State) : Holder → Option Assignment
  | .current => s.seq.current.map Current.toAssignment
  | .next => s.plan.next
  | _ => none

/-- Rewrites the current assignment. -/
def State.setCurrent (f : Current → Current) (s : State) : State :=
  { s with seq := { s.seq with current := s.seq.current.map f } }

/-- Rewrites the record of a schedule claim. -/
def State.setRecord (h : Holder) (f : Assignment → Assignment) (s : State) : State :=
  match h with
  | .current => s.setCurrent (fun c => { c with toAssignment := f c.toAssignment })
  | .next => { s with plan := { s.plan with next := s.plan.next.map f } }
  | _ => s

/-- The claim of a holder. -/
def State.claimOf (s : State) : Holder → Option Claim
  | .manual => s.hall.manualClaim.map ManualClaim.claim
  | .maint p => (s.hall.maint.find? (fun e => decide (e.port = p))).map MaintEntry.claim
  | h => (s.record h).map Assignment.claim

/-- Rewrites the claim of a holder. -/
def State.setClaim (h : Holder) (f : Claim → Claim) (s : State) : State :=
  match h with
  | .manual =>
    { s with hall := { s.hall with
        manualClaim := s.hall.manualClaim.map (fun m => { m with claim := f m.claim }) } }
  | .maint p =>
    { s with hall := { s.hall with
        maint := s.hall.maint.map (fun e => if e.port = p then { e with claim := f e.claim } else e) } }
  | h => s.setRecord h (fun a => { a with claim := f a.claim })

/-- The port, class and start stamp a holder claims with. -/
def State.claimTuple (s : State) : Holder → Option (Nat × Nat × Nat)
  | .manual => s.hall.manualClaim.map (fun m => (m.port, m.cls, m.start))
  | .maint p => (s.hall.maint.find? (fun e => decide (e.port = p))).map (fun e => (e.port, 0, e.start))
  | h => (s.record h).bind (fun a => a.chosen.map (fun p => (p, a.cls, a.segStart)))

/-- Every holder there is. -/
def State.holders (s : State) : List Holder :=
  [.current, .next, .manual] ++ s.hall.maint.map (fun e => .maint e.port)

/-- A claim back at NONE that was begun; NO_PORT is filed once for a segment (R49). -/
def Claim.rest (c : Claim) : Claim := { Claim.fresh with begun := true, noPortFiled := c.noPortFiled }

/-- The source a CLAIM_WON names (section 11.3). -/
def State.holderCode (s : State) (h : Holder) : Nat :=
  match h with
  | .manual => 254
  | .maint _ => 255
  | h => ((s.record h).map (fun a => sourceCode a.source)).getD 255

/-- The release stamp carried in the HOLD of a claim (R89, R175). -/
def State.claimRelease (s : State) (h : Holder) : Option Nat := (s.record h).bind Assignment.release

/-- The port with its claim in QUEUED or IN_WINDOW, by schedule or manual claim (R95). -/
def State.claiming (s : State) : List Nat :=
  ([Holder.current, .next, .manual].filter (fun h =>
    (s.claimOf h).any (fun c => decide (c.state = .queued ∨ c.state = .inWindow)))).filterMap
    (fun h => (s.claimTuple h).map Prod.fst)

/-! ## May the planner plan (R57), and is the port settled (R40, R172) -/

/-- The assignment is a manual one. -/
def Assignment.isManual (a : Assignment) : Bool := decide (a.source = .manual)

/-- R57: none of the conditions under which no next record is formed holds. -/
def State.canPlan (s : State) : Bool :=
  decide (s.time.quality ≠ .unset ∧ s.seq.state ≠ .configFault ∧ s.start.step = .done) && !s.manual.flag

/-- R40, R172: the current assignment's port is settled. A manual assignment whose port is none counts as settled, so
in the interval of R180 the planner plans beside it (DESIGN CHOICE, entry 86). -/
def State.currentSettled (s : State) : Bool :=
  match s.seq.current with
  | none => true
  | some c =>
    if c.isManual then c.port.all (fun p => s.ownHeld p) else decide (c.claim.state = .won)

/-! ## Lead and changeover start (R43 to R47) -/

/-- R44: the lead time in ms. -/
def leadMs (c : Params) : Kind → Path → Nat
  | .full, _ => c.tMute + c.tGuard + max (2 * c.tTravel + c.tSettle) c.tTune + 10 * c.tStep
  | .retune, _ => c.tMute + c.tGuard + c.tTune + 10 * c.tStep
  | .first, .retune => c.tGuard + c.tTune + 10 * c.tStep
  | .first, _ => c.tGuard + max (2 * c.tTravel + c.tSettle) c.tTune + 10 * c.tStep
  | .continuation, _ => 0

/-- R44: rounded up to whole seconds. -/
def leadOf (c : Params) (k : Kind) (p : Path) : Nat := ceilDiv (leadMs c k p) 1000

/-- R42: the port a next record keeps when it chooses it. -/
def State.keptPort (s : State) : Option Nat :=
  match s.seq.current with
  | some c => c.port
  | none => if s.seq.state = .heldIdle then s.heldPort else none

/-- R43, R180: the frequency a chained record is compared with. -/
def State.presentFreq (s : State) : Option Nat :=
  match s.seq.current with
  | some c => if c.isManual then s.manual.tuned else c.freq
  | none => none

/-- R43: the kind a changeover has as though it were chained. -/
def State.chainedKind (s : State) (a : Assignment) : Kind :=
  if a.chosen.isSome && decide (a.chosen = s.keptPort) then
    (if a.freq = s.presentFreq then .continuation else .retune)
  else .full

/-- The path that belongs to a chained kind. -/
def pathOf : Kind → Path
  | .continuation => .continuation
  | .retune => .retune
  | _ => .full

/-- R43, R180: the current segment's end as the planner takes it. In the interval of R180 the end written into the
manual assignment follows the next record's changeover start, also over a jump (R13; entry 58). -/
def State.planEnd (s : State) (c : Current) (segStart lead : Nat) : Nat :=
  match c.segEnd with
  | some e => if c.isManual && s.manual.atNext then segStart - lead else e
  | none => segStart - lead

/-- Kind, path, chained, lead and unraised changeover start (R43 to R45). -/
def State.changeoverPlan (s : State) (a : Assignment) : Kind × Path × Bool × Nat × Nat :=
  let firstFull := leadOf s.cfg .first .full
  match s.seq.current with
  | some c =>
    let k := s.chainedKind a
    let l := leadOf s.cfg k (pathOf k)
    let e := s.planEnd c a.segStart l
    if a.segStart - l ≤ e then (k, pathOf k, true, l, max e (a.segStart - l))
    else (.first, .full, false, firstFull, a.segStart - firstFull)
  | none =>
    if s.seq.state = .heldIdle ∧ a.chosen.isSome ∧ a.chosen = s.keptPort then
      (.first, .retune, false, leadOf s.cfg .first .retune, a.segStart - leadOf s.cfg .first .retune)
    else (.first, .full, false, firstFull, a.segStart - firstFull)

/-- R47: a claim deferred beside a current assignment waits until the bay is IDLE or HELD_IDLE. -/
def State.waitsForIdle (s : State) (a : Assignment) (chained : Bool) : Bool :=
  !chained && (s.seq.current.isSome ||
    (a.deferred && !decide (s.seq.state = .idle ∨ s.seq.state = .heldIdle)))

/-- R43 to R48: what is worked out at the forming of a record and at each re-planning. -/
def State.timed (s : State) (a : Assignment) : Assignment :=
  let p := s.changeoverPlan a
  let c := max p.2.2.2.2 s.stamp
  { a with kind := p.1, path := p.2.1, chained := p.2.2.1, lead := p.2.2.2.1, changeoverStart := c,
           claimTime := max (c - s.cfg.claimMargin) s.stamp, release := a.segEnd,
           deferred := s.waitsForIdle a p.2.2.1 }

/-- R46: the missed-segment test. -/
def State.missed (s : State) (a : Assignment) : Bool :=
  a.segEnd.any (fun e => decide (e < a.changeoverStart + a.lead + s.cfg.minAir))

/-! ## The scan (R42, R49) -/

/-- R42: the first port not marked DROPPED that is available. -/
def State.scanPort (s : State) (a : Assignment) : Option Nat :=
  (a.ports.find? (fun q => !q.2 && s.scannable q.1 a.cls a.segStart a.freq)).map Prod.fst

/-- R49: a blocking mark that the claim may wait out. -/
def State.waitable (s : State) (a : Assignment) (q : Nat) : Bool :=
  match (s.portRec q).mark with
  | .held _ _ (some r) => decide (r ≤ a.segStart + s.cfg.lateTolerance)
  | _ => false

/-- R49: the port is blocked, and by nothing but marks that the claim may wait out. -/
def State.waitWorth (s : State) (a : Assignment) (p : Nat) : Bool :=
  let b := s.blockers p a.cls a.segStart
  !b.isEmpty && b.all (fun q => s.waitable a q)

/-- R49: the first port that is worth waiting for. -/
def State.findWait (s : State) (a : Assignment) : Option Nat :=
  (a.ports.find? (fun q => !q.2 && s.portSound q.1 a.freq && s.waitWorth a q.1)).map Prod.fst

/-- R42: the scan of a next record; one that finds no port looks for a wait port. The claim enters WAIT_RELEASE or
NO_PORT only when it is made (DEDUCED, entry 67). -/
def State.choose (s : State) (a : Assignment) : Assignment :=
  let p := s.scanPort a
  { a with chosen := p, keepsPort := p.isSome && decide (p = s.keptPort),
           waitPort := if p.isSome then none else s.findWait a }

/-- R92: the latest release stamp among the HELD marks that block, or the all-ones stamp when none does. -/
def State.latestRelease (s : State) (p cls start : Nat) : Nat :=
  let held := (s.blockers p cls start).filterMap (fun q =>
    match (s.portRec q).mark with
    | .held _ _ r => some (stampCode r)
    | _ => none)
  match held with
  | [] => stampNone
  | r :: rs => latestOf r rs

/-- R49: a scan that found no port. That NO_PORT has been filed is kept with the record (DESIGN CHOICE, entry 78). -/
def failedScan (h : Holder) (a : Assignment) (s : State) : State :=
  match s.findWait a with
  | some w =>
    let waiting (x : Assignment) : Assignment :=
      { x with waitPort := some w, claim := { x.claim.rest with state := .waitRelease } }
    file .claimWait w (s.latestRelease w a.cls a.segStart) (s.setRecord h waiting)
  | none =>
    let retry := some (s.time.elapsed + 15)
    let none' (x : Assignment) : Assignment :=
      { x with waitPort := none,
               claim := { x.claim.rest with state := .noPort, retryAt := retry, noPortFiled := true } }
    let s1 := s.setRecord h none'
    if a.claim.noPortFiled then s1 else file .noPort (sourceCode a.source) a.segStart s1

/-! ## Handing a port over (R48, R87) -/

/-- R87: the outcome DROPPED. -/
def claimDropped (h : Holder) (p : Nat) (s : State) : State :=
  let again := some (s.time.elapsed + 1)
  file .claimLost p (5 * 256 + 255) (s.setClaim h (fun c => { c.rest with rescanAt := again }))

/-- R87: the INTENT of a claim. -/
def offerIntent (h : Holder) (p cls start : Nat) (s : State) : State :=
  let r := offer (.intent p cls start) false s
  if r.2 then r.1.setClaim h (fun c => { c.rest with state := .queued }) else claimDropped h p r.1

/-- R49: the chosen port is marked DROPPED. -/
def markDropped (p : Nat) (a : Assignment) : Assignment :=
  { a with ports := a.ports.map (fun q => if q.1 = p then (q.1, true) else q) }

/-- R42 on a record in its claim: a next record is worked out again with its new port (R43). No missed-segment test is
made here (DESIGN CHOICE, entry 79). -/
def rescanned (h : Holder) (s : State) (a : Assignment) : Assignment :=
  match h with
  | .next => s.timed (s.choose a)
  | _ => { a with chosen := s.scanPort a, keepsPort := false, waitPort := none }

/-- R93: the class of the next record where its claim of p is WON, or the class of the mark. -/
def State.nextClass (s : State) (p : Nat) : Nat :=
  match s.plan.next with
  | some a => if a.chosen = some p ∧ a.claim.state = .won then a.cls else (s.portRec p).mark.cls
  | none => (s.portRec p).mark.cls

/-- R93: the class of the assignment that holds a port, the current one or else the next record that has won it; the
class of its mark where no assignment does (DEDUCED, entry 49). -/
def State.holdingClass (s : State) (p : Nat) : Nat :=
  match s.seq.current with
  | some c => if c.port = some p then c.cls else s.nextClass p
  | none => s.nextClass p

/-- R48: the claim of the chosen port begins. A kept port that is no longer this bay's is lost (R93), and
the scan is made again; a list has four ports. -/
def claimChosen : Nat → Holder → State → State
  | 0, _, s => s
  | fuel + 1, h, s =>
    match s.record h with
    | none => s
    | some a =>
      match a.chosen with
      | none => failedScan h a s
      | some p =>
        if s.ownHeld p then
          askHold p (s.holdingClass p) a.release
            (s.setClaim h (fun c => { c.rest with refreshAsked := true }))
        else if a.keepsPort then
          let s1 := s.setRecord h (fun x => rescanned h s (markDropped p x))
          claimChosen fuel h s1
        else offerIntent h p a.cls a.segStart s

/-- R48: the claim time of a record. -/
def beginClaim (h : Holder) (s : State) : State := claimChosen 5 h s

/-! ## What a next record writes into the current assignment (R48, R180) -/

/-- R180: the next record's changeover start is written into a manual assignment as its end. -/
def writeManualEnd (s : State) : State :=
  s.setCurrent (fun c =>
    if c.isManual then
      { c with toAssignment := { c.toAssignment with
                 segEnd := s.plan.next.map Assignment.changeoverStart } }
    else c)

/-- R48: the current assignment's release stamp. -/
def Current.releaseWith (next : Option Assignment) (c : Current) : Option Nat :=
  match next with
  | some a =>
    if a.keepsPort && a.chained then a.segEnd else if c.isManual then none else c.segEnd
  | none => if c.isManual then none else c.segEnd

/-- R48, R180: what a new next record, or its absence, writes into the current assignment. -/
def syncCurrent (s : State) : State :=
  let s1 := writeManualEnd s
  s1.setCurrent (fun c =>
    { c with toAssignment := { c.toAssignment with release := c.releaseWith s1.plan.next } })

/-! ## The scan repeated (R49) -/

/-- R126: a waiting command is withdrawn where the current assignment's chosen port is no longer `was`. -/
def withdrawMoved (was : Option Nat) (s : State) : State :=
  if s.seq.current.bind (fun c => c.chosen) = was then s else withdrawWaiting s

/-- R47: the record of a claim whose beginning is deferred. -/
def State.claimDeferred (s : State) (h : Holder) : Bool := decide (h = .next) && (s.record h).any Assignment.deferred

/-- A claim not begun, with what R49 keeps of it. -/
def Claim.unbegun (c : Claim) : Claim := { Claim.fresh with noPortFiled := c.noPortFiled }

/-- R42, R49: the scan repeated, and the claim of what it finds; none is begun where the new kind defers it (R47).
The written end and the release stamp of the current assignment follow the next record (R48, R180). -/
def scanAgain (h : Holder) (s : State) : State :=
  let s1 := s.setRecord h (fun a => rescanned h s { a with claim := a.claim.rest })
  let s2 := if s1.claimDeferred h then s1.setClaim h Claim.unbegun else beginClaim h s1
  withdrawMoved (s.seq.current.bind (fun c => c.chosen)) (if h = .next then syncCurrent s2 else s2)

/-- R49: the record with every DROPPED mark cleared. -/
def Assignment.unmarked (a : Assignment) : Assignment := { a with ports := a.ports.map (fun q => (q.1, false)) }

/-- R49: the restart from the top clears every DROPPED mark. -/
def restartScan (h : Holder) (s : State) : State := scanAgain h (s.setRecord h Assignment.unmarked)

/-- R42, R49: the same for a next record before its claim time, whose claim is not begun by it (R48). -/
def restartAhead (s : State) : State :=
  syncCurrent (s.setRecord .next (fun a => s.timed (s.choose a.unmarked)))

/-- R49: the outcome LOST. -/
def lostScan (h : Holder) (p : Nat) (s : State) : State :=
  scanAgain h (s.setRecord h (markDropped p))

/-! ## Abandoning a claim (R91) -/

/-- The subject crosspoint of the motion state. -/
def Motion.subject : Motion → Option Nat
  | .still => none
  | .opening p => some p
  | .closing p => some p
  | .settling p => some p

/-- R91: what the claim unit does for an abandoned claim on p, by the state it stands in. `spare` is the
port a replacing record takes. -/
def dropClaim (c : Claim) (p cls start : Nat) (spare : Option Nat) (s : State) : State :=
  match c.state with
  | .queued => withdrawFrame (fun f => decide (f = .intent p cls start)) s
  | .inWindow => if c.holdOffered then withdrawFrame (isClaimHold p cls) s else s
  | .won =>
    if (s.point p).reading = .atOpen ∧ s.row.motion.subject ≠ some p ∧ spare ≠ some p then
      offerRelease p s.bay s
    else s
  | .unclaimed => if c.refreshAsked then dropAsked p s else s
  | _ => s

/-- R91 for the holder as it stands; its claim is then NONE. -/
def abandonClaim (h : Holder) (spare : Option Nat) (s : State) : State :=
  match s.claimOf h, s.claimTuple h with
  | some c, some t => (dropClaim c t.1 t.2.1 t.2.2 spare s).setClaim h (fun _ => Claim.fresh)
  | some _, none => s.setClaim h (fun _ => Claim.fresh)
  | none, _ => s

/-! ## Forming the next record (R41, R50) -/

/-- The record of a segment, its port not yet chosen. -/
def Segment.record (c : Params) (g : Segment) : Assignment :=
  { source := .entry g.occ.number g.occ.day, bank := g.occ.bank, occEnd := g.occ.stop, heldOver := false,
    segStart := g.start, segEnd := some g.stop, freq := some g.occ.body.freq, power := g.occ.body.power,
    cls := g.occ.body.cls, programme := g.occ.body.programme,
    ports := g.occ.body.ports.map (fun p => (p, false)), chosen := none, keepsPort := false,
    waitPort := none, kind := .first, path := .full, chained := false, lead := 0, changeoverStart := 0,
    claimTime := 0, giveUp := g.stop - c.minAir, release := some g.stop, claim := Claim.fresh }

/-- The planning floor set. -/
def State.setFloor (x : Nat) (s : State) : State := { s with plan := { s.plan with floor := x } }

/-- R46: ENTRY_MISSED for a record. -/
def fileMissed (a : Assignment) (s : State) : State :=
  file .entryMissed (sourceCode a.source) a.segStart s

/-- R41: the planning floor as it stands: the end of the current assignment, or the present stamp beside a manual
assignment without an end, at whose forming the floor was set to it; a segment reported missed raises it further. -/
def State.floorNow (s : State) : Nat :=
  match s.seq.current with
  | some c => if c.isManual then max s.plan.floor (c.segEnd.getD s.stamp) else s.plan.floor
  | none => s.plan.floor

/-- R41: the segment next in turn. -/
def State.nextInTurn (s : State) : Option Segment :=
  nextSegment s.store (max s.floorNow s.stamp) (s.stamp + daySeconds)

/-- R41, R46: the next record is formed; the segments missed on the way are reported in their order. The
bound is above the number of segments a day can hold. -/
def formNext : Nat → State → State
  | 0, s => s
  | fuel + 1, s =>
    match s.nextInTurn with
    | none => s
    | some g =>
      let a := s.timed (s.choose (g.record s.cfg))
      if s.missed a then formNext fuel (fileMissed a (s.setFloor g.stop))
      else { s with plan := { s.plan with next := some a } }

/-- R50: the planner forms a next record where there is none and it may. -/
def planNext (s : State) : State :=
  if s.plan.next.isNone && s.canPlan && s.currentSettled then syncCurrent (formNext 2000 s) else s

/-- R48: a kept next record had its refreshed HOLD asked for, so the mark carries the later stamp. -/
def Assignment.keptBegun (a : Assignment) : Bool := a.keepsPort && a.claim.begun

/-- R48: the record's kept port is settled. -/
def Assignment.keptWon (a : Assignment) : Bool := a.keepsPort && decide (a.claim.state = .won)

/-- R48, R93: after a record that had its kept port's refreshed HOLD asked for is discarded, the current assignment's own
release stamp is restated: none for a manual assignment, as R180 has it at MANUAL_ENTER. R48 names a settled port; one
whose refreshed HOLD is still on its way is restated behind it (DEDUCED, entry 82). -/
def restateKept (old : Assignment) (s : State) : State :=
  match s.seq.current with
  | some c =>
    match c.port with
    | some p =>
      if old.keptBegun && !(s.plan.next.any Assignment.keptBegun) then
        refreshHold p c.cls (if c.isManual then none else c.segEnd) s
      else s
    | none => s
  | none => s

/-- R52: the claim of a record that the planner has put aside is abandoned, beside the record that takes its place. A
settled kept port is the current assignment's own, so it is restated and never released. -/
def dropRecord (old : Assignment) (s : State) : State :=
  let spare := s.plan.next.bind Assignment.chosen
  let s1 :=
    match old.chosen with
    | some p => if old.keptWon then s else dropClaim old.claim p old.cls old.segStart spare s
    | none => s
  restateKept old s1

/-- The state without its next record. -/
def State.withoutNext (s : State) : State := { s with plan := { s.plan with next := none } }

/-- R52: the next record is discarded without a report and its claim abandoned. -/
def discardNext (s : State) : State :=
  match s.plan.next with
  | none => s
  | some old => dropRecord old (syncCurrent s.withoutNext)

/-- R39: the record's segment is the same segment: source number, day, start and end. The same slot of the other bank is
no other source (DESIGN CHOICE, entry 93). -/
def Assignment.sameSegment (a : Assignment) (g : Segment) : Bool :=
  decide (a.source = .entry g.occ.number g.occ.day ∧ a.segStart = g.start ∧ a.segEnd = some g.stop)

/-- R35: the record's occurrence read afresh: the bank that now gives it and its end. What the record carries of its
entry stays (DESIGN CHOICE, entry 93). -/
def Assignment.readFrom (o : Occurrence) (a : Assignment) : Assignment := { a with bank := o.bank, occEnd := o.stop }

/-- R42, R52, same segment: the record is kept with its scan marks, and the scan is repeated. A claim goes on when
the scan finds the port it was begun for, and a new one is due when it finds another (DEDUCED, entry 12). -/
def State.replanned (s : State) (a : Assignment) : Assignment :=
  let b := s.choose a
  s.timed (if a.claim.begun && decide (b.chosen = a.chosen) then { a with keepsPort := b.keepsPort }
    else { b with claim := a.claim.unbegun })

/-- R52 for a record whose segment is still the next one: kept, or missed (R46), which picks the next at once; a
claim that does not go on is abandoned. -/
def keepRecord (old : Assignment) (s : State) : State :=
  let a := s.replanned old
  if s.missed a then
    dropRecord old (syncCurrent (formNext 2000 ((fileMissed a s.withoutNext).setFloor (a.segEnd.getD 0))))
  else
    let s1 := syncCurrent { s with plan := { s.plan with next := some a } }
    if a.chosen = old.chosen then s1 else dropRecord old s1

/-- R41, R52: the next segment is chosen afresh. -/
def planAfresh (s : State) : State :=
  match s.plan.next with
  | none => syncCurrent (formNext 2000 s)
  | some old =>
    match s.nextInTurn.filter (fun g => old.sameSegment g) with
    | some g => keepRecord (old.readFrom g.occ) s
    | none => dropRecord old (syncCurrent (formNext 2000 s.withoutNext))

/-- R52: a re-planning event acts on the next record. -/
def replan (s : State) : State := if s.canPlan && s.currentSettled then planAfresh s else s

/-- R54: the record for the present instant is formed, though the assignment that ends here be unsettled. -/
def planTaken (s : State) : State := if s.canPlan then planAfresh s else s

/-! ## Changes to the current segment (R54, R55) -/

/-- R54, R55: the end of the current assignment's segment as the store now answers: the first override whose span
ends after the segment's start cuts it, one put over the start of a segment not yet begun too (DESIGN CHOICE, entry
80). An occurrence of the pending bank, taken in its lead before the switch, keeps the end of its occurrence when the
bank is disarmed (DESIGN CHOICE, entry 84), and one of the active bank is cut at a switch stamp that lies before its
segment's start too (DESIGN CHOICE, entry 94). -/
def State.endNow (s : State) (c : Current) : Nat :=
  let cuts := (s.store.overrides.filter (fun o => decide (c.segStart < o.stop))).map Override.start
  let armed := if c.bank = s.store.activeNo ∧ c.heldOver = false then
    s.store.armedAt.toList.filter (fun w => decide (s.stamp < w)) else []
  if c.bank = 2 then c.occEnd else earliestOf c.occEnd (cuts ++ armed)

/-- R54: a new end is written into the current assignment, and the floor follows it. -/
def writeEnd (e : Nat) (s : State) : State :=
  match s.seq.current with
  | none => s
  | some c =>
    if c.isManual || decide (c.segEnd = some e) then s
    else
      let s1 := s.setCurrent (fun x => { x with toAssignment :=
        { x.toAssignment with segEnd := some e, giveUp := e - s.cfg.minAir } })
      syncCurrent (s1.setFloor e)

/-- R35, R54: the source of a current assignment as the store now gives it. Where the bank in force at its segment's
start answers with its source, that bank's occurrence is the assignment's, so that a switch stamp at or before that
start does not cut it (DESIGN CHOICE, entry 93). One held over is the former bank's for good (R55). -/
def State.reread (s : State) (c : Current) : Current :=
  match bankAt s.store c.segStart with
  | some o =>
    if c.heldOver = false ∧ c.source = .entry o.number o.day then
      { c with toAssignment := c.toAssignment.readFrom o }
    else c
  | none => c

/-- R54 on every re-planning event. -/
def recutCurrent (s : State) : State :=
  match s.seq.current with
  | some c => if c.isManual then s else writeEnd (s.endNow (s.reread c)) (s.setCurrent s.reread)
  | none => s

/-- R54: the end of the current assignment of `before` has changed, and it is current still. -/
def State.endMoved (s before : State) : Bool :=
  match before.seq.current, s.seq.current with
  | some b, some c => !c.isManual && decide (b.source = c.source ∧ b.segStart = c.segStart ∧ b.segEnd ≠ c.segEnd)
  | _, _ => false

/-- R48, R54: the mark carries, or is about to carry, a stamp that leaves the new end of the current assignment
unsaid: a kept next record has set a later one, or the end was restated where that record was discarded (entry 82).
A kept record sets its stamp once its refreshed HOLD has been asked for (DESIGN CHOICE, entry 60). -/
def State.endSaid (s before : State) (e : Nat) : Bool :=
  s.plan.next.any (fun a => a.keptBegun && a.segEnd.any (fun x => decide (e < x))) ||
    (before.plan.next.any Assignment.keptBegun && !s.plan.next.any Assignment.keptBegun)

/-- R54: a refreshed HOLD carries the new end. -/
def restateEnd (before s : State) : State :=
  match s.seq.current with
  | some c =>
    match c.port, c.segEnd with
    | some p, some e => if s.endMoved before && !s.endSaid before e then refreshHold p c.cls (some e) s else s
    | _, _ => s
  | none => s

/-- R52, R54: a re-planning event acts on the current assignment's end and on the next record; `before` is the state
whose end the port's mark carries. -/
def replanFrom (before s : State) : State := restateEnd before (replan (recutCurrent s))

/-- R52, R54: the same where the event itself has not moved the end. -/
def replanAll (s : State) : State := replanFrom s s

/-- R54: the source that applies at the present instant is another than the current assignment's. -/
def State.sourceDiffers (s : State) (c : Current) : Bool :=
  match appliesAt s.store s.stamp with
  | some o => decide (c.source ≠ .entry o.number o.day)
  | none => true

/-- R54: an override put over the present instant ends the current assignment. -/
def State.endedByPut (s : State) (o : Override) : Bool :=
  match s.seq.current with
  | some c => !c.isManual && o.occurrence.covers s.stamp && s.sourceDiffers c
  | none => false

/-- R54: an override dropped ends the current assignment that carries it, one whose changeover runs before its span
begins too (DESIGN CHOICE, entry 85). One dropped while it runs ends any current assignment whose source is not the one
that applies at the present instant, in its lead too; a held-over one runs on to its end (R55). -/
def State.endedByDrop (s : State) (o : Override) : Bool :=
  match s.seq.current with
  | some c =>
    !c.isManual && (decide (c.source = .entry (96 + o.tag) o.date) ||
      (o.occurrence.covers s.stamp && !c.heldOver && s.sourceDiffers c))
  | none => false

/-- R55: a current assignment of the bank that was active before the switch is held over. -/
def holdOver (former : Nat) (s : State) : State :=
  match s.seq.current with
  | some c =>
    if c.bank = former then
      let s1 := s.setCurrent (fun x => { x with toAssignment := { x.toAssignment with heldOver := true } })
      writeEnd (s1.endNow { c with toAssignment := { c.toAssignment with heldOver := true } }) s1
    else s
  | none => s

/-! ## An unsettled current assignment (R50, R127, R178) -/

/-- The current assignment's port becomes none and unsettled: the planner discards the next record and scans
again; in manual mode the port setting becomes none and the RF order OFF. In the interval of R180, where the planner
is not stopped, the next record beside a manual assignment is discarded too (R50; DEDUCED, entry 91). -/
def unsettleCurrent (s : State) : State :=
  match s.seq.current with
  | none => s
  | some c =>
    if c.isManual then
      let s1 : State := { s with manual := { s.manual with port := none, rfOn := false } }
      let s2 := (withdrawWaiting s1).setCurrent (fun x => { x with
        port := none, toAssignment := { x.toAssignment with chosen := none } })
      retarget (discardNext s2)
    else
      let s1 := s.setCurrent (fun x => { x with
        port := none, toAssignment := { x.toAssignment with
          chosen := none, keepsPort := false, waitPort := none, claim := x.claim.rest } })
      scanAgain .current (retarget (discardNext (withdrawWaiting s1)))

/-- R49: the claim of a schedule assignment is WON. -/
def settle (h : Holder) (s : State) : State :=
  let s1 := s.setClaim h (fun c => { c.rest with state := .won })
  match h with
  | .current => planNext (retarget (s1.setCurrent (fun c => { c with port := c.chosen })))
  | _ => s1

/-- R51: the next record is given up. -/
def giveUpNext (a : Assignment) (s : State) : State :=
  dropRecord a
    (planNext (syncCurrent ((fileMissed a s.withoutNext).setFloor (a.segEnd.getD 0))))

end Sys2Proof.Machine
end

