-- ==== Sys2Proof/Machine/Row.lean ====
section
/-! DEFINITION. The row driver (chapter 6): the start of a command, the pulse and its two ends, failures, stray
changes and the row check. What the driver answers is handed back to the sequencer as a list. -/

namespace Sys2Proof.Machine

/-! ## Answers (section 6.3) -/

/-- The causes of REFUSED. -/
inductive RefuseCause where
  | defective | notHeld | rowNotOpen | fault
  deriving DecidableEq, Repr, Inhabited

/-- The answers of the row driver; `rowFault` is the row fault it posts. -/
inductive RowAnswer where
  | opened (port : Nat)
  | closed (port : Nat)
  | closeFailed (port : Nat)
  | openFailed (port : Nat)
  | refused (port : Nat) (cause : RefuseCause)
  | cancelled
  | rowFault
  deriving DecidableEq, Repr, Inhabited

/-- The row after an operation, with the answers given in their order. -/
abbrev RowStep := State × List RowAnswer

/-- Two operations in turn, the answers of both kept. -/
def RowStep.andThen (r : RowStep) (f : State → RowStep) : RowStep :=
  let q := f r.1
  (q.1, r.2 ++ q.2)

/-- The port of a command. -/
def RowCommand.port : RowCommand → Nat
  | .openPort p => p
  | .closePort p => p

/-! ## Start conditions (R110, R111) -/

/-- R111: motion clearance given, the permit off, no HOLD_MOTION in force. -/
def State.rowFree (s : State) : Bool := s.seq.clearance && !s.seq.permit && !s.motionHold

/-- Some command, pulse, settle or recovery open is under way. -/
def State.rowBusy (s : State) : Bool :=
  decide (s.row.motion ≠ .still) || s.row.waiting.isSome || s.row.recoveryOf.isSome

/-- The crosspoints other than p that read anything but open, lowest first. -/
def State.othersNotOpen (s : State) (p : Nat) : List Nat :=
  (s.row.points.entries.filter (fun e => decide (e.1 ≠ p ∧ e.2.reading ≠ .atOpen))).map Prod.fst

/-- R111: the port shows HELD by this bay and the last own echo is HOLD. -/
def State.mayClose (s : State) (p : Nat) : Bool :=
  s.ownHeld p && decide ((s.portRec p).lastEcho = .hold)

/-- R108: the crosspoint is the subject of no pulse, no settle and no waiting recovery open. -/
def RowDriver.atRest (r : RowDriver) (p : Nat) : Bool :=
  decide (r.motion.subject ≠ some p) && decide (r.recoveryOf ≠ some p)

/-- R112: the start of a pulse. -/
def startPulse (m : Motion) (p : Nat) (s : State) : State :=
  (s.setPoint p (fun c => { c with settled := false })).setRow (fun r =>
    { r with motion := m, travelTimer := some (s.after s.cfg.tTravel), barred := false })

/-- CROSSPOINT_FAULT (section 11.3). -/
def fileCrosspoint (p cause rest reading : Nat) (s : State) : State :=
  file .crosspointFault p (cause * 65536 + rest * 256 + reading) s

/-- R111: a command whose start conditions hold is tested against the row and started. -/
def startCommand (c : RowCommand) (s : State) : RowStep :=
  if s.seq.state = .matrixFault then (s, [.refused c.port .fault])
  else
    match c with
    | .openPort p =>
      if (s.point p).reading = .atOpen then
        (s.setPoint p (fun x => { x with rest := .atOpen }), [.opened p])
      else (startPulse (.opening p) p s, [])
    | .closePort p =>
      if (s.point p).defect.isSome then (s, [.refused p .defective])
      else if !s.mayClose p then (s, [.refused p .notHeld])
      else
        match s.othersNotOpen p with
        | q :: _ =>
          let x := s.point q
          (fileCrosspoint q 6 (readingCode x.rest) (readingCode x.reading) s,
           [.refused p .rowNotOpen, .rowFault])
        | [] =>
          if (s.point p).reading = .atClosed then
            (s.setPoint p (fun x => { x with rest := .atClosed, settled := true }), [.closed p])
          else (startPulse (.closing p) p s, [])

/-- R114: the recovery open ends with the reading open. -/
def recovered (p : Nat) (s : State) : State :=
  (s.setPoint p (fun x => { x with rest := .atOpen })).setRow
    (fun r => { r with recoveryMark := false, recoveryOf := none })

/-- R110: with the motion STILL the waiting recovery open comes first, and one that finds its crosspoint
open ends without a pulse. -/
def tryRecovery (s : State) : RowStep :=
  match s.row.recoveryOf with
  | none => (s, [])
  | some p =>
    if s.row.motion ≠ .still || !s.rowFree then (s, [])
    else if (s.point p).reading = .atOpen then (recovered p s, [.closeFailed p])
    else ((startPulse (.opening p) p s).setRow (fun r => { r with recoveryOf := none }), [])

/-- R110: then the waiting command. -/
def tryWaiting (s : State) : RowStep :=
  match s.row.waiting with
  | none => (s, [])
  | some c =>
    if s.row.motion ≠ .still || s.row.recoveryOf.isSome || !s.rowFree then (s, [])
    else startCommand c (s.setRow (fun r => { r with waiting := none }))

/-- R110: what the driver does whenever the motion is STILL and a start condition may have come to hold. -/
def tryStart (s : State) : RowStep := RowStep.andThen (tryRecovery s) tryWaiting

/-- R110: a command of the sequencer is started at once or becomes the waiting command. -/
def rowCommand (c : RowCommand) (s : State) : RowStep :=
  if s.row.motion = .still && s.row.recoveryOf.isNone && s.rowFree then startCommand c s
  else
    (s.setRow (fun r => { r with waiting := some c }),
     if s.row.waiting.isSome then [.cancelled] else [])

/-! ## Failures (R114, R115) -/

/-- The motion at rest, its timers stopped. -/
def RowDriver.stopped (r : RowDriver) : RowDriver :=
  { r with motion := .still, travelTimer := none, settleTimer := none, barred := false }

/-- R114. In MATRIX_FAULT, and after a stray change beside the pulse (R116), no recovery open follows and the
answer is OPEN_FAILED (DEDUCED, entry 15). -/
def closeFailure (p cause : Nat) (s : State) : RowStep :=
  let x := s.point p
  let s1 := fileCrosspoint p cause (readingCode x.rest) (readingCode x.reading)
    (s.setPoint p (fun y => { y with defect := some .closeFail, settled := false }))
  if s.seq.state = .matrixFault ∨ s.row.barred = true then
    ((s1.setPoint p (fun y => { y with rest := x.reading })).setRow RowDriver.stopped, [.openFailed p])
  else
    tryStart (s1.setRow (fun r => { r.stopped with recoveryMark := true, recoveryOf := some p }))

/-- R115. -/
def openFailure (p : Nat) (s : State) : RowStep :=
  let x := s.point p
  let s1 := fileCrosspoint p 2 (readingCode x.rest) (readingCode x.reading)
    (s.setPoint p (fun y => { y with defect := some .openFail, rest := x.reading }))
  (s1.setRow (fun r => { r.stopped with recoveryMark := false, waiting := none }),
   [.openFailed p] ++ (if s.row.waiting.isSome then [.cancelled] else []) ++ [.rowFault])

/-! ## Contacts (R112, R113, R116) -/

/-- R116, a change of a crosspoint at rest outside MATRIX_FAULT that departs from its rest reading; a pulse under way
elsewhere is barred from a recovery open, and so is a settle, until it ends (DESIGN CHOICE, entry 53). A crosspoint
whose waiting recovery open is dropped keeps the rest reading it had before its failed close (DESIGN CHOICE, entry
45). -/
def strayChange (p : Nat) (s : State) : RowStep :=
  let x := s.point p
  let s1 := fileCrosspoint p 3 (readingCode x.rest) (readingCode x.reading)
    (s.setPoint p (fun y => { y with defect := some .stray, settled := false }))
  let s2 := s1.setRow (fun r =>
    { r with waiting := none, recoveryOf := none, barred := decide (r.motion ≠ .still),
             recoveryMark := r.recoveryMark && r.recoveryOf.isNone })
  (s2, (if s.row.waiting.isSome then [.cancelled] else [])
    ++ (match s.row.recoveryOf with
        | some q => [.openFailed q]
        | none => [])
    ++ [.rowFault])

/-- R116: the change of a crosspoint at rest. In CONFIG_FAULT, which a row fault does not end, each further change
that stands off the rest reading is flagged and reported again (DESIGN CHOICE, entry 45). A stray change that led to
MATRIX_FAULT leaves the earlier rest reading, which stands after the exit too (DESIGN CHOICE, entry 52). -/
def restChange (p : Nat) (s : State) : RowStep :=
  let x := s.point p
  let left : State := if x.reading = .atClosed then s
    else s.setPoint p (fun y => { y with settled := false })
  if s.seq.state = .matrixFault then
    (left.setPoint p (fun y => { y with rest := y.reading }), [])
  else if x.reading = x.rest then (left, [])
  else strayChange p s

/-- R112: an OPENING pulse takes its target reading. Its crosspoint is not settled from the pulse's start on, also
where a row check has been made meanwhile (DESIGN CHOICE, entry 87). -/
def pulseOpened (p : Nat) (s : State) : RowStep :=
  let s1 := (s.setPoint p (fun y => { y with rest := .atOpen })).setRow
    (fun r => { r.stopped with recoveryMark := false })
  RowStep.andThen (s1, [if s.row.recoveryMark then .closeFailed p else .opened p]) tryStart

/-- R108, R112, R113, R116: a contact reading has changed. Stray detection begins at the end of the start-up read. -/
def contactChange (p : Nat) (new : Reading) (s : State) : RowStep :=
  if (s.point p).reading = new then (s, [])
  else
    let s1 := s.setPoint p (fun x => { x with reading := new })
    if s.row.motion = .opening p then
      (if new = .atOpen then pulseOpened p s1 else (s1, []))
    else if s.row.motion = .closing p then
      (if new = .atClosed then
        (s1.setRow (fun r => { r with motion := .settling p, travelTimer := none,
                                      settleTimer := some (s.after s.cfg.tSettle) }), [])
       else (s1, []))
    else if s.row.motion = .settling p then closeFailure p 1 s1
    else if s.row.recoveryOf = some p || !s.row.watching then (s1, [])
    else restChange p s1

/-- R108: what a sample of both contacts reads. -/
def readingOf (openMade closedMade : Bool) : Reading :=
  match openMade, closedMade with
  | true, false => .atOpen
  | false, true => .atClosed
  | false, false => .travel
  | true, true => .conflict

/-- What the contacts of one crosspoint read at this instant. -/
def Inputs.contactReading (i : Inputs) (p : Nat) : Reading :=
  readingOf (i.contacts.get p).1 (i.contacts.get p).2

/-- R108: the crosspoints whose two latest samples agree on a reading they do not yet have. -/
def State.agreedChanges (s : State) : List Nat :=
  (s.row.points.entries.filter (fun e =>
    decide (e.2.lastSample = some (s.inputs.contactReading e.1) ∧
      e.2.reading ≠ s.inputs.contactReading e.1))).map Prod.fst

/-- R108: the sample of every crosspoint is kept, and the next is due 5 ms later. -/
def keepSamples (s : State) : State :=
  s.setRow (fun r =>
    { r with points := r.points.mapIdx (fun p x => { x with lastSample := some (s.inputs.contactReading p) }),
             sampleDue := r.sampleDue + 5 })

/-- R112: the travel timer expires. -/
def travelExpired (s : State) : RowStep :=
  match s.row.motion with
  | .opening p => openFailure p s
  | .closing p => closeFailure p 0 s
  | _ => (s, [])

/-- R113: the settle timer expires with the reading still closed. -/
def settleExpired (s : State) : RowStep :=
  match s.row.motion with
  | .settling p =>
    let s1 := (s.setPoint p (fun y => { y with rest := .atClosed, settled := true })).setRow
      RowDriver.stopped
    RowStep.andThen (s1, [.closed p]) tryStart
  | _ => (s, [])

/-! ## The row check (R119) -/

/-- What the row check answers: the closed port or none, or the first failing condition (0 a reading of
travel or conflict, 1 several closed, 2 a flag) with the lowest crosspoint concerned. -/
inductive RowCheck where
  | consistent (port : Option Nat)
  | inconsistent (condition port : Nat)
  deriving DecidableEq, Repr, Inhabited

/-- A flag that fails the row check: OPEN, STRAY or START. -/
def flagFails (d : Option DefectCause) : Bool :=
  match d with
  | none => false
  | some .closeFail => false
  | some _ => true

/-- R119. -/
def State.rowCheck (s : State) : RowCheck :=
  let moving := (s.row.points.entries.filter (fun e =>
    decide (e.2.reading = .travel ∨ e.2.reading = .conflict))).map Prod.fst
  let flagged := (s.row.points.entries.filter (fun e => flagFails e.2.defect)).map Prod.fst
  match moving, s.closedPorts, flagged with
  | p :: _, _, _ => .inconsistent 0 p
  | [], p :: _ :: _, _ => .inconsistent 1 p
  | [], _, p :: _ => .inconsistent 2 p
  | [], l, [] => .consistent l.head?

/-- R119: a closed port found by the check is settled with its rest reading closed. One whose own OPENING pulse, settle
or waiting recovery open is still to end becomes settled by none of these checks (DESIGN CHOICE, entry 87). -/
def acceptClosed (p : Nat) (s : State) : State :=
  s.setPoint p (fun x => { x with rest := .atClosed, settled := s.row.atRest p })

end Sys2Proof.Machine
end

