-- ==== Sys2Proof/Machine/Sequencer.lean ====
section
/-! DEFINITION. The changeover sequencer's stages (chapter 7) with the trip, the lockout and the suspect they
are joined to (R103, R155, R157): permit and watch, mute and guard, tune, ramp, hold, pause and lock. -/

namespace Sys2Proof.Machine

/-- Rewrites the sequencer. -/
def State.setSeq (f : Sequencer → Sequencer) (s : State) : State := { s with seq := f s.seq }

/-! ## Permit and RF-off watch (R122, R123) -/

/-- R123: the RF-off watch starts; on an input already inactive its start is the RF-off instant. -/
def startWatch (onRise : Bool) (s : State) : State :=
  if s.inputs.rfPresent then
    s.setSeq (fun q => { q with watch := some s.time.osc, watchOnRise := onRise, rfOff := none })
  else s.setSeq (fun q => { q with watch := none, watchOnRise := onRise, rfOff := some s.time.osc })

/-- R145, R150, R154, R160: what the protection unit stops at a removal of the permit. -/
def Protection.permitOff (p : Protection) : Protection :=
  { p with pairFlag := false, ceiling := none, recoveryTimer := none, txDropArmed := false,
           proof := none, sampleDue := none }

/-- R122: the permit removed at once, the demand 0 and the RF-off watch started. The step count becomes 0 here too
(DESIGN CHOICE, entry 71). -/
def removePermit (s : State) : State :=
  if s.seq.permit then
    let s1 := s.setSeq (fun q =>
      { q with permit := false, stepTimer := none, stepCount := 0, clearWait := none })
    startWatch false (refreshDemand { s1 with prot := s1.prot.permitOff })
  else s

/-! ## Guard, mute, hold, pause (R124, R125, R136, R137) -/

/-- R125: GUARD, its timer started at once when the RF-off instant has been reached. -/
def enterGuard (s : State) : State :=
  let s1 := removePermit s
  let timer := s1.seq.rfOff.map (fun t => max t s1.time.osc + s1.cfg.tGuard)
  s1.setSeq (fun q => { q with state := .guarding, guardTimer := timer, clearWait := none, holdEnd := none })

/-- R124: MUTING from the demand d0 that stood at that instant, as far as the target, the limit and the cap after the
event let it stand, since no mute value exceeds the target (R151; DEDUCED, entry 35); the TX-drop watch is disarmed
(R154). -/
def enterMuting (d0 : Nat) (s : State) : State :=
  let s1 := s.setSeq (fun q =>
    { q with state := .muting, muteFrom := s.time.osc, muteStep := 0,
             muteDemand := min d0 (min s.prot.target (min s.prot.limit s.prot.cap)),
             stepTimer := none, clearance := false, clearWait := none })
  refreshDemand { s1 with prot := { s1.prot with txDropArmed := false } }

/-- R124: the instant of step j of MUTING. -/
def State.muteDue (s : State) : Nat := s.seq.muteFrom + (s.seq.muteStep + 1) * s.cfg.tMute / 5

/-- R137. -/
def enterPaused (s : State) : State :=
  (removePermit s).setSeq (fun q =>
    { q with state := .paused, stepCount := 0, stepTimer := none, holdEnd := none, guardTimer := none })

/-- R136: the restart hold ends the configured seconds after the trip. -/
def enterRestartHold (s : State) : State :=
  s.setSeq (fun q => { q with state := .restartHold, holdEnd := some (s.time.elapsed + s.cfg.restartHold),
                              guardTimer := none })

/-- R138, R139: a port that is held for a record the planner still has is not one that stays held for none. -/
def State.wonForNext (s : State) (p : Nat) : Bool :=
  s.plan.next.any (fun a => !a.keepsPort && decide (a.chosen = some p))

/-- R138, R139: with no current assignment a refreshed HOLD carrying none is asked for every port that stays held, so
for none whose RELEASE has been asked for; `was` is the state whose assignments still hold the ports (R93). -/
def restateHeld (was : State) (s : State) : State :=
  if s.seq.current.isSome then s
  else
    ((List.range 32).filter (fun p => s.ownHeld p && !s.wonForNext p && !s.releaseQueued p)).foldl
      (fun acc p => refreshHold p (was.holdingClass p) none acc) s

/-- R138, at entry. -/
def enterLocked (s : State) : State :=
  let s1 := withdrawWaiting ((removePermit s).setSeq (fun q =>
    { q with state := .locked, holdEnd := none, guardTimer := none, stepTimer := none }))
  restateHeld s1 s1

/-- R139, at entry; CONFIG_FAULT is not left (R142). To leave LOCKED is a re-planning event (R52). -/
def enterMatrixFault (s : State) : State :=
  if s.seq.state = .configFault ∨ s.seq.state = .matrixFault then s
  else
    let s1 := withdrawWaiting ((removePermit s).setSeq (fun q =>
      { q with state := .matrixFault, holdEnd := none, guardTimer := none, stepTimer := none,
               tuneRequest := false, tuneTimer := none,
               tuneSub := if q.tuneSub = .tuning then .idle else q.tuneSub }))
    let s2 := restateHeld s1 s1
    if s.seq.state = .locked then replanAll s2 else s2

/-! ## Suspect, lockout, trip (R103, R155, R157) -/

/-- R103: the own suspect list with the port as newest. -/
def joinSuspect (p cause : Nat) (l : List (Nat × Nat)) : List (Nat × Nat) :=
  let others := l.filter (fun q => decide (q.1 ≠ p))
  (if others.length < 4 then others else others.tail) ++ [(p, cause)]

/-- R103: a suspect is raised on a port. -/
def raiseSuspect (p cause : Nat) (s : State) : State :=
  let s1 : State := { s with hall := { s.hall with suspects := joinSuspect p cause s.hall.suspects } }
  offerKept (.suspect p cause) false s1

/-- R157: the port a lockout names; of several closed and held, the lowest (DESIGN CHOICE, entry 63). -/
def State.lockoutPort (s : State) : Option Nat :=
  match s.seq.current.bind (fun c => c.port) with
  | some p => some p
  | none => s.heldPort

/-- R143: the start state has been taken. -/
def State.started (s : State) : Bool := decide (s.start.step = .rollCall ∨ s.start.step = .done)

/-- R138, R139, R142, R143: a lockout in force takes the sequencer to LOCKED, or is held. -/
def obeyLockout (s : State) : State :=
  if s.seq.state = .matrixFault ∨ s.seq.state = .configFault ∨ s.started = false then s else enterLocked s

/-- R157: a lockout is declared; with one already in force nothing changes. -/
def declareLockout (cause : LockoutCause) (s : State) : State :=
  if s.prot.lockout.isSome then s
  else
    let port := s.lockoutPort
    let record : Lockout := { cause := cause, port := port, stamp := s.stamp }
    let s1 : State := { s with prot := { s.prot with lockout := some record } }
    let s2 := file .lockout (portCode port) (lockoutCode cause * 256 + lockoutCarried cause) s1
    let s3 :=
      match cause, port with
      | .trips c, some p => raiseSuspect p (tripCode c) s2
      | _, _ => s2
    obeyLockout s3

/-- R152: a second entry in the list makes the cap REDUCED. -/
def reduceCap (p : Protection) : Protection :=
  { p with capState := .reduced, cap := p.target / 2, capTimer := none }

/-- R155: a trip, while the permit is asserted. `sv` is the S of a VSWR trip and 0 otherwise. -/
def trip (cause : TripCause) (sv : Nat) (s : State) : State :=
  if !s.seq.permit then s
  else
    let was := s.seq.state
    let port := s.seq.current.bind (fun c => c.port)
    let s1 := removePermit s
    let entry : Trip := { elapsed := s1.time.elapsed, stamp := s1.stamp, cause := cause, port := port }
    let s2 : State := { s1 with prot := { s1.prot with trips := s1.prot.trips ++ [entry] } }
    let n := s2.prot.trips.length
    let s3 := if n ≥ 3 then declareLockout (.trips cause) s2 else s2
    let s4 : State := if n = 2 then refreshDemand { s3 with prot := reduceCap s3.prot } else s3
    let s5 := file .trip (portCode port) (tripCode cause * 16777216 + n * 65536 + sv) s4
    let s6 : State := { s5 with sup := { s5.sup with sticky := { s5.sup.sticky with tripSeen := true } } }
    if s6.prot.lockout.isSome then s6
    else if was = .muting then enterGuard s6
    else enterRestartHold s6

/-! ## Tune (R128, R172) -/

/-- R128: a tune request with the given attempt; a request for another frequency ends the tuned one. -/
def sendTune (f attempt : Nat) (s : State) : State :=
  let s1 := s.setSeq (fun q =>
    { q with tuneRequest := true, tuneFreq := some f, tuneSub := .tuning, tuneAttempt := attempt,
             tuneTimer := some (s.after s.cfg.tTune) })
  if s.manual.tuned = some f then s1 else { s1 with manual := { s1.manual with tuned := none } }

/-- R134, R135: the tune-request line low and the sub-state TUNE_IDLE. The attempt count stands until the next request
(DESIGN CHOICE, entry 61). -/
def stopTune (s : State) : State :=
  s.setSeq (fun q => { q with tuneRequest := false, tuneTimer := none, tuneSub := .idle })

/-- R126, R172: the tune goal of an assignment; a manual tune that failed with RF off is done with (R176). -/
def State.tuneMet (s : State) (c : Current) : Bool :=
  if c.isManual then
    decide (s.manual.freq = none ∨ s.manual.tuned = s.manual.freq) ||
      (!s.manual.rfOn && decide (s.seq.tuneSub = .failed))
  else decide (s.seq.tuneSub = .tuned ∧ s.seq.tuneFreq = c.freq)

/-- R126, R172: the tune request at the entry to REPOSITION. -/
def requestTune (s : State) : State :=
  match s.seq.current with
  | none => stopTune s
  | some c =>
    match (if c.isManual then s.manual.freq else c.freq) with
    | none => s
    | some f =>
      if c.isManual && decide (s.manual.tuned = some f) then s else sendTune f 1 s

/-! ## Ramp and resume (R130) -/

/-- R130: RAMPING, or PAUSED while an inhibit stands; an arc input already active trips at once (R153). -/
def enterRamping (c : Current) (s : State) : State :=
  if s.rfInhibit then enterPaused s
  else
    let s1 := s.setSeq (fun q =>
      { q with state := .ramping, clearance := false, clearWait := none, guardTimer := none,
               holdEnd := none, programme := c.programme, stepCount := 0,
               stepTimer := some (s.after s.cfg.tStep), permit := true })
    let due := some (s.after 10)
    let s2 := refreshDemand { s1 with prot := { s1.prot with sampleDue := due } }
    if s2.inputs.arc then trip .arc 0 s2 else s2

/-- R138, R141, R172: HELD_IDLE with a closed port HELD by this bay, else IDLE; in HELD_IDLE the mark's
release stamp becomes none. Entering either is a re-planning event. A closing pulse still in travel here closes its
crosspoint later, and the bay stays in IDLE (DESIGN CHOICE, entry 56). -/
def enterIdle (s : State) : State :=
  match s.heldPort with
  | some p =>
    let s1 := s.setSeq (fun q => { q with state := .heldIdle })
    replan (if (s.portRec p).mark.release.isSome then refreshHold p (s.holdingClass p) none s1 else s1)
  | none => replan (s.setSeq (fun q => { q with state := .idle }))

/-- The manual assignment ends by R172: cleared, the port staying held, the floor at the present stamp (R41). The
settings stand, also in the interval of R180 (DESIGN CHOICE, entry 64). -/
def clearManual (s : State) : State :=
  enterIdle (retarget ((s.setSeq (fun q => { q with current := none })).setFloor s.stamp))

/-- The assignment's port reads closed and is settled in the row. -/
def State.portReady (s : State) (c : Current) : Bool :=
  c.port.any (fun p => decide ((s.point p).reading = .atClosed) && (s.point p).settled)

/-- R126, R172: the row goal. -/
def State.rowMet (s : State) (c : Current) : Bool :=
  (s.closedPorts.all (fun q => decide (some q = c.port))) &&
    (if c.port.isNone then c.isManual else s.portReady c)

/-- R130: the resume of a current assignment; with none the bay is idle by its row. A manual assignment with the RF
order OFF ends there by the row (R178), unless a port won in LOCKED has its motion to make (R175). -/
def resume (s : State) : State :=
  let s1 : State := { s with manual := { s.manual with moveWaits := false } }
  match s.seq.current with
  | none => enterIdle s1
  | some c =>
    if c.isManual && !s.manual.rfOn then
      (if s.manual.moveWaits && !s.rowMet c then enterGuard s1 else clearManual s1)
    else if s.currentSettled && s.portReady c && s.tuneMet c then enterRamping c s1
    else enterGuard s1

/-! ## Arrival on the air (R56, R131) -/

/-- R56, R131: the first arrival on the air, in time or late. A manual assignment files neither (R172). -/
def firstOnAir (s : State) : State :=
  match s.seq.current with
  | none => s
  | some c =>
    if c.onAirStamp.isSome then s
    else
      let s1 := s.setCurrent (fun x =>
        { x with onAirStamp := some s.stamp, onAirCount := some s.time.elapsed })
      if c.isManual then s1
      else if s.stamp ≤ c.segStart then file .entryOnAir (sourceCode c.source) (portCode c.port) s1
      else file .entryLate (sourceCode c.source) (s.stamp - c.segStart) s1

/-- R131: ON_AIR once the ramp value stands at the target. -/
def reachTarget (s : State) : State :=
  if s.rampValue = s.prot.target then
    let s1 := s.setSeq (fun q => { q with stepTimer := none })
    if s.seq.state = .ramping then firstOnAir (s1.setSeq (fun q => { q with state := .onAir })) else s1
  else s

/-- R132: the step count after a change of target, from the ramp value just before it. A step timer that runs already
runs on (DESIGN CHOICE, entry 98). -/
def rebase (ramp : Nat) (s : State) : State :=
  let k := min 10 (ceilDiv ramp s.prot.step)
  let s1 := s.setSeq (fun q => { q with stepCount := k })
  let s2 := refreshDemand s1
  if s2.rampValue = s2.prot.target then reachTarget s2
  else s2.setSeq (fun q => { q with stepTimer := some (q.stepTimer.getD (s.after s.cfg.tStep)) })

/-! ## Answers of the row driver (R127) -/

/-- R94, R105, R127: RELEASE of a port whose crosspoint reads open, asked for by the sequencer or sent by the claim
unit for a port that is being given up. -/
def askRelease (p : Nat) (s : State) : State :=
  if (s.point p).reading ≠ .atOpen then s else offerRelease p s.bay s

/-- R178: the port setting becomes none and the RF order OFF when the port is lost with no manual assignment. -/
def unsetManual (p : Nat) (s : State) : State :=
  if s.manual.flag ∧ s.manual.port = some p ∧ s.seq.current = none then
    { s with manual := { s.manual with port := none, rfOn := false } }
  else s

/-- R127, R178: a close that failed or was refused leaves the assignment's port unsettled. With the manual assignment
cleared before a pulse that outlasts LOCKED fails, the port setting becomes none as for a yield (DESIGN CHOICE, entry
90). -/
def loseClosing (p : Nat) (s : State) : State :=
  if s.seq.current.any (fun c => decide (c.port = some p)) then unsettleCurrent s else unsetManual p s

/-- R120: the left port becomes none where no pulse opens it and no command waits to. -/
def dropIdleLeft (s : State) : State :=
  match s.seq.leftPort with
  | some p =>
    if s.row.motion = .opening p ∨ s.row.waiting = some (.openPort p) then s else dropLeft p s
  | none => s

/-- R127: one answer. -/
def applyAnswer (s : State) (a : RowAnswer) : State :=
  match a with
  | .opened p =>
    let s1 := dropLeft p s
    if s.seq.current.any (fun c => decide (c.chosen = some p)) then s1 else askRelease p s1
  | .closed _ => s
  | .closeFailed p => loseClosing p (askRelease p s)
  | .openFailed p => enterMatrixFault (dropLeft p s)
  | .refused p .defective => loseClosing p (if s.ownHeld p then askRelease p s else s)
  | .refused p .notHeld => loseClosing p (if s.ownHeld p then askRelease p s else s)
  | .refused _ .rowNotOpen => enterMatrixFault s
  | .refused p .fault => enterMatrixFault (dropLeft p s)
  | .cancelled => dropIdleLeft s
  | .rowFault => enterMatrixFault s

/-- R127: the answers of a row operation, in their order. -/
def applyAnswers (r : RowStep) : State := r.2.foldl applyAnswer r.1

/-! ## Reposition (R126, R130) -/

/-- R130, R172: the row goal is met. -/
def rowGoalMet (s : State) : State :=
  let s1 := s.setSeq (fun q => { q with rowSub := .still })
  match s.seq.current with
  | none => enterIdle s1
  | some c =>
    if s.tuneMet c then
      (if c.isManual && !s.manual.rfOn then clearManual s1 else enterRamping c s1)
    else s1

/-- R126: the steps toward the row goal, taken again on every immediate answer. -/
def workRow : Nat → State → State
  | 0, s => s
  | fuel + 1, s =>
    if s.seq.state ≠ .reposition || s.rowBusy then s
    else
      let target := s.seq.current.bind (fun c => c.chosen)
      match s.closedPorts.find? (fun q => decide (some q ≠ target)) with
      | some q =>
        let s1 := s.setSeq (fun x => { x with leftPort := some q, rowSub := .opening })
        workRow fuel (applyAnswers (rowCommand (.openPort q) s1))
      | none =>
        match s.seq.current with
        | none => rowGoalMet s
        | some c =>
          if !c.isManual && !s.currentSettled then s.setSeq (fun q => { q with rowSub := .waitPort })
          else
            match c.port with
            | none => rowGoalMet s
            | some p =>
              if s.portReady c then rowGoalMet s
              else
                let s1 := s.setSeq (fun x => { x with rowSub := .closing })
                workRow fuel (applyAnswers (rowCommand (.closePort p) s1))

/-- R126: the driver settles the assignment's port. -/
def State.settlesPort (s : State) : Bool :=
  match s.row.motion with
  | .settling p => s.seq.current.any (fun c => decide (c.port = some p))
  | _ => false

/-- R121, R126: the row sub-state is ROW_SETTLING while the driver settles the assignment's port, and ROW_CLOSING
again where it does so no more and the CLOSE is still to be answered. -/
def showSettling (s : State) : State :=
  if s.seq.state ≠ .reposition then s
  else if s.settlesPort then s.setSeq (fun q => { q with rowSub := .settling })
  else if s.seq.rowSub = .settling then s.setSeq (fun q => { q with rowSub := .closing })
  else s

/-- R126: the sequencer's work in REPOSITION. -/
def work (s : State) : State := showSettling (workRow 12 s)

/-- What a row operation answers is applied, and the steps of R126 are taken again. -/
def afterRow (r : RowStep) : State := work (applyAnswers r)

/-- R126: the targets changed, so a waiting command is withdrawn and the steps are taken again. -/
def retargetRow (s : State) : State :=
  if s.seq.state = .reposition then work (withdrawWaiting s) else s

/-- R126: the row sub-state of the command that is outstanding: a recovery open, waiting or in travel, belongs to the
CLOSE that is still to be answered (R114), and a settle shows as ROW_SETTLING where it is for the assignment's port
(showSettling). -/
def State.outstandingSub (s : State) : RowSub :=
  if s.row.recoveryMark || s.row.recoveryOf.isSome then .closing
  else
    match s.row.motion, s.row.waiting with
    | .opening _, _ => .opening
    | .closing _, _ => .closing
    | .settling _, _ => .closing
    | .still, some (.openPort _) => .opening
    | .still, some (.closePort _) => .closing
    | .still, none => .still

/-- R126: the sub-state shown is that of the command outstanding. -/
def showOutstanding (s : State) : State := s.setSeq (fun q => { q with rowSub := s.outstandingSub })

/-- R125, R126: the guard timer's end gives motion clearance and enters REPOSITION. -/
def enterReposition (s : State) : State :=
  let s1 := s.setSeq (fun q => { q with clearance := true, guardTimer := none, state := .reposition })
  work (requestTune (showOutstanding (applyAnswers (tryStart s1))))

/-! ## Inhibits (R137) -/

/-- R124, R137: a MUTE action or a conflict pause arises. -/
def applyInhibit (s : State) : State :=
  match s.seq.state with
  | .ramping => enterPaused s
  | .onAir => enterPaused s
  | .muting => enterGuard s
  | _ => s

/-- R137: the last cause has lifted. -/
def liftInhibit (s : State) : State :=
  if s.seq.state = .paused && !s.rfInhibit then work (resume s) else s

/-! ## The end of a current assignment (R134, R135, R138) -/

/-- Section 10.1: the settings at their reset values. -/
def resetManual (s : State) : State := { s with manual := { Manual.initial with flag := s.manual.flag } }

/-- R48: a next record that kept the port of an assignment that has ended keeps it no longer, and its claim waits
until that port is given up (DEDUCED, entry 13). A NO_PORT filed for its segment stands (R49). -/
def loosenNext (s : State) : State :=
  s.setRecord .next (fun a =>
    if a.keepsPort then { a with keepsPort := false, claim := a.claim.unbegun, deferred := true } else a)

/-- The same, with the refreshed HOLD that its claim in NONE waits for (R91). -/
def loosenKept (s : State) : State :=
  match s.plan.next with
  | some a =>
    loosenNext (if a.keepsPort && a.claim.refreshAsked then
      (match a.chosen with
       | some p => dropAsked p s
       | none => s)
      else s)
  | none => s

/-- R134, R138: ENTRY_ENDED for an assignment that reached ON_AIR, else ENTRY_MISSED unless another rule
files it. A manual assignment files neither (R172). -/
def fileEnd (missed : Bool) (c : Current) (s : State) : State :=
  if c.isManual then s
  else
    match c.onAirCount with
    | some n => file .entryEnded (sourceCode c.source) (elapsedCount (s.time.elapsed - n)) s
    | none => if missed then fileMissed c.toAssignment s else s

/-- R134, R135: the path after an end, by the state; `d0` is the demand at the end. -/
def endPath (d0 : Nat) (s : State) : State :=
  match s.seq.state with
  | .ramping => enterMuting d0 s
  | .onAir => enterMuting d0 s
  | .restartHold => enterGuard s
  | .paused => enterGuard s
  | .muting => stopTune (withdrawWaiting s)
  | .guarding => stopTune (withdrawWaiting s)
  | .reposition => work (stopTune (withdrawWaiting s))
  | _ => s

/-- R91, R135: the claim of an ending assignment is abandoned; a port it holds that has not been closed is
released, unless a record takes it (DEDUCED, entry 14). -/
def giveBack (c : Current) (spare : Option Nat) (s : State) : State :=
  match c.isManual, c.port with
  | true, some p => dropClaim { Claim.fresh with state := .won } p c.cls 0 spare s
  | _, _ => abandonClaim .current spare s

/-- R134, R135: the current assignment is cleared and its path begins; one that is abandoned has its waiting command
withdrawn and its tune ended. In LOCKED and MATRIX_FAULT it ends in place (R138, R139). `floor` is the stamp the
planning floor takes, unless a segment reported missed has raised it further (R41). -/
def clearCurrent (abandon : Bool) (floor : Nat) (s : State) : State :=
  match s.seq.current with
  | none => s
  | some c =>
    let inPlace := decide (s.seq.state = .locked ∨ s.seq.state = .matrixFault)
    let s1 :=
      if inPlace then (if c.claim.state = .won then s else abandonClaim .current none s)
      else giveBack c (s.plan.next.bind Assignment.chosen) s
    let s2 := (s1.setFloor (max floor s.plan.floor)).setSeq (fun q => { q with current := none })
    let s3 := retarget (if c.isManual then resetManual s2 else s2)
    let s4 := if abandon then stopTune (withdrawWaiting s3) else s3
    if inPlace then planNext (restateHeld s s4)
    else planNext (endPath s.prot.demand (loosenKept s4))

/-- R134, R135, R138: a segment end with no record taken. One reached before the assignment first reached ON_AIR
abandons it, but in LOCKED and MATRIX_FAULT. The end of a manual assignment is this instant (R41, R179). -/
def endSegment (missed : Bool) (c : Current) (s : State) : State :=
  let abandon := c.onAirStamp.isNone && !decide (s.seq.state = .locked ∨ s.seq.state = .matrixFault)
  let floor := if c.isManual then s.stamp else c.segEnd.getD s.stamp
  clearCurrent abandon floor (fileEnd missed c s)

/-! ## Takeover (R133) -/

/-- R133, R179, R180: the frequency the transmitter is tuned to, which beside a manual assignment is the tuned
frequency of the settings. -/
def State.tunedTo (s : State) : Option Nat :=
  if s.seq.current.any (fun c => c.isManual) then s.manual.tuned
  else if s.seq.tuneSub = .tuned then s.seq.tuneFreq
  else none

/-- R133: the new assignment keeps the port and is for the frequency the transmitter is tuned to. -/
def State.continues (s : State) (a : Assignment) : Bool :=
  a.chosen.isSome && decide (s.seq.current.bind (fun c => c.port) = a.chosen) &&
    a.freq.isSome && decide (s.tunedTo = a.freq)

/-- R120: the current assignment record formed from a next record (its port: DEDUCED, entry 13). -/
def Assignment.taken (a : Assignment) : Current :=
  { toAssignment := a,
    port := if a.claim.state = ClaimState.won ∨ a.keepsPort = true then a.chosen else none,
    onAirStamp := none, onAirCount := none }

/-- R132: the continuation path. -/
def continuation (ramp : Nat) (s : State) : State :=
  let s1 := s.setSeq (fun q => { q with programme := (q.current.map (fun c => c.programme)).getD 0 })
  firstOnAir (if s.seq.permit then rebase ramp s1 else s1)

/-- R133: REPOSITION with the new targets. -/
def repositionTaken (s : State) : State :=
  match s.seq.current.bind (fun c => c.freq) with
  | none => s
  | some f =>
    if s.seq.tuneFreq = some f ∧ (s.seq.tuneSub = .tuning ∨ s.seq.tuneSub = .tuned) then s
    else sendTune f 1 s

/-- R133, R179: the frequency of a new assignment that keeps the tuned one is that of the tune sub-state TUNED, also
where the assignment before was a manual one (DEDUCED, entry 30). -/
def keepTuned (f : Option Nat) (s : State) : State :=
  s.setSeq (fun q => { q with tuneSub := .tuned, tuneFreq := f })

/-- R133: where the new changeover starts; `d0` is the demand at the takeover. -/
def takeoverPath (same : Bool) (ramp d0 : Nat) (s : State) : State :=
  match s.seq.state with
  | .onAir => if same then continuation ramp s else enterMuting d0 s
  | .ramping => if same then continuation ramp s else enterMuting d0 s
  | .restartHold => if same then continuation 0 s else enterGuard s
  | .paused => if same then continuation 0 s else enterGuard s
  | .reposition => repositionTaken (withdrawWaiting s)
  | .idle => enterGuard s
  | .heldIdle => enterGuard s
  | _ => s

/-- R53, R133: the sequencer takes the next record; an assignment that never reached ON_AIR is reported unless
R15 reports it. A claim that is deferred and not begun when its record is taken begins at the takeover, as the
current assignment's (DESIGN CHOICE, entry 50). -/
def takeover (missed : Bool) (a : Assignment) (s : State) : State :=
  let same := s.continues a
  let ramp := s.rampValue
  let s1 :=
    match s.seq.current with
    | none => s
    | some c =>
      let s0 := if c.isManual then resetManual s
        else if missed && c.onAirStamp.isNone then fileMissed c.toAssignment s else s
      giveBack c a.chosen s0
  let s2 := s1.setSeq (fun q => { q with current := some a.taken })
  let s3 : State := { s2 with plan := { floor := a.segEnd.getD s2.stamp, next := none } }
  let s4 := takeoverPath same ramp s.prot.demand (retarget (if same then keepTuned a.freq s3 else s3))
  let begun (c : Claim) : Claim := { c with begun := true }
  let s5 := if a.claim.begun then s4 else beginClaim .current (s4.setClaim .current begun)
  work (planNext s5)

/-- The states in which the sequencer takes no record (R53). -/
def SeqState.takesNone : SeqState → Bool
  | .locked => true
  | .matrixFault => true
  | .configFault => true
  | _ => false

/-- R133, R134: the current assignment's end: a chained record offered for this instant is taken, or the path
begins. One that is not chained is offered on the path, at its own changeover start. -/
def currentEnds (missed : Bool) (s : State) : State :=
  match s.seq.current with
  | none => s
  | some c =>
    match s.plan.next with
    | some a =>
      if a.chained && decide (a.changeoverStart ≤ s.stamp) && !s.seq.state.takesNone then takeover missed a s
      else endSegment missed c s
    | none => endSegment missed c s

/-! ## Yield (R140) -/

/-- R140, R178: the yielded port out of the targets of the current assignment and of the next record, and out of
the manual settings. -/
def untarget (p : Nat) (s : State) : State :=
  let s1 :=
    if s.seq.current.any (fun c => decide (c.port = some p ∨ c.chosen = some p)) then unsettleCurrent s
    else unsetManual p s
  match s1.plan.next with
  | some a =>
    if a.chosen = some p then
      (if a.claim.begun then scanAgain .next s1
       else syncCurrent { s1 with plan := { s1.plan with next := some (s1.timed (s1.choose a)) } })
    else s1
  | none => s1

/-- R140: the path by which a yielded port is given up. -/
def yieldPath (p : Nat) (s : State) : State :=
  if s.seq.state.takesNone then s
  else if (s.point p).reading = .atOpen ∧ s.row.motion.subject ≠ some p then offerRelease p s.bay s
  else
    match s.seq.state with
    | .ramping => enterGuard s
    | .onAir => enterGuard s
    | .restartHold => enterGuard s
    | .paused => enterGuard s
    | .heldIdle => enterGuard s
    | .reposition => retargetRow s
    | _ => s

/-- R140: the claim unit asks for a port to be given up. -/
def yieldPort (p : Nat) (s : State) : State :=
  let s1 : State := { s with hall := { s.hall with yielding := s.hall.yielding ++ [p] } }
  work (yieldPath p (untarget p s1))

/-- R140: what was yielded in LOCKED or MATRIX_FAULT is given up at the leaving, if still held and its RELEASE not
on its way. -/
def yieldLeft (s : State) : State :=
  s.hall.yielding.foldl
    (fun acc p =>
      if acc.ownHeld p then (if acc.releaseQueued p then acc else yieldPath p acc)
      else { acc with hall := { acc.hall with
              yielding := acc.hall.yielding.filter (fun q => decide (q ≠ p)) } }) s

/-- R130, R138, R139, R140: LOCKED or MATRIX_FAULT is left, a re-planning event (R52). A tune request that still runs
when LOCKED is left with no current assignment runs on (DESIGN CHOICE, entry 88). -/
def leaveFault (s : State) : State := work (yieldLeft (replanAll (resume s)))

/-- R139: the exit from MATRIX_FAULT after a consistent row check. No rest reading but that of the closed port is
written, and no stray change is found here (DESIGN CHOICE, entry 52). -/
def leaveMatrixFault (closed : Option Nat) (s : State) : State :=
  let s1 :=
    match closed with
    | some p =>
      let s0 := acceptClosed p s
      if s0.ownHeld p then s0 else enterClosed p s0
    | none => s
  let open' := (List.range 32).filter (fun p =>
    s1.ownHeld p && decide ((s1.point p).reading = .atOpen))
  let s2 := open'.foldl (fun acc p => offerRelease p acc.bay acc) s1
  let s3 := s2.setSeq (fun q => { q with state := .idle })
  if s3.prot.lockout.isSome then replanAll (enterLocked s3) else leaveFault s3

end Sys2Proof.Machine
end

