-- ==== Sys2Proof/Machine/Receipt.lean ====
section
/-! DEFINITION. What a frame taken from the hall bus does beside the map (sections 5.2 to 5.7): the objection
window, the outcome of a claim, the answers to other bays, forced releases, conflicts and waits. -/

namespace Sys2Proof.Machine

/-! ## The manual port (R172, R175) -/

/-- R172: the manual assignment formed from the settings. Its kind is FIRST and its claim state NONE (DESIGN CHOICE,
entry 76). -/
def State.manualAssignment (s : State) : Current :=
  { toAssignment :=
      { source := .manual, bank := 3, occEnd := 0, heldOver := false, segStart := 0, segEnd := none,
        freq := s.manual.freq, power := s.manual.power.getD s.cfg.rating, cls := s.manual.cls,
        programme := s.manual.programme, ports := [], chosen := s.manual.port, keepsPort := false,
        waitPort := none, kind := .first, path := .full, chained := false, lead := 0,
        changeoverStart := 0, claimTime := 0, giveUp := 0, release := none, claim := Claim.fresh },
    port := s.manual.port, onAirStamp := none, onAirCount := none }

/-- R172: the manual assignment exists and carries the settings; at its forming the floor is the present stamp
(R41). -/
def shapeManual (s : State) : State :=
  match s.seq.current with
  | none => retarget ((s.setSeq (fun q => { q with current := some s.manualAssignment })).setFloor s.stamp)
  | some _ =>
    retarget (s.setCurrent (fun c => { c with
      port := s.manual.port,
      toAssignment := { c.toAssignment with
        freq := s.manual.freq, power := s.manual.power.getD s.cfg.rating, cls := s.manual.cls,
        programme := s.manual.programme, chosen := s.manual.port } }))

/-- R133, R172: in REPOSITION a manual tune goal that is not met sends its tune request, unless that frequency is
being tuned. -/
def requestUnmet (s : State) : State :=
  match s.seq.current with
  | some c =>
    if s.tuneMet c || decide (s.seq.tuneSub = .tuning ∧ s.seq.tuneFreq = c.freq) then s else requestTune s
  | none => s

/-- R133, R175: where a change that does not keep the port starts; `d0` is the demand at it. -/
def changePath (d0 : Nat) (s : State) : State :=
  match s.seq.state with
  | .onAir => enterMuting d0 s
  | .ramping => enterMuting d0 s
  | .restartHold => enterGuard s
  | .paused => enterGuard s
  | .idle => enterGuard s
  | .heldIdle => enterGuard s
  | .reposition => retargetRow (requestUnmet s)
  | _ => s

/-- R175: the manual claim is WON. In LOCKED its motion waits for the resume. -/
def manualWon (p : Nat) (s : State) : State :=
  let s1 : State := { s with hall := { s.hall with manualClaim := none } }
  if s.seq.state = .matrixFault then offerRelease p s.bay s1
  else
    let waits := decide (s.seq.state = .locked)
    changePath s.prot.demand
      (shapeManual { s1 with manual := { s1.manual with port := some p, moveWaits := waits } })

/-! ## Outcomes (R88, R90, R96) -/

/-- Rewrites one entry of the own maintenance list. -/
def State.setMaint (p : Nat) (f : MaintEntry → MaintEntry) (s : State) : State :=
  { s with hall := { s.hall with
      maint := s.hall.maint.map (fun e => if e.port = p then f e else e) } }

/-- R96: the entry waits, and CLAIM_WAIT is filed with the port as subject. -/
def maintWaits (e : MaintEntry) (s : State) : State :=
  let waiting (x : MaintEntry) : MaintEntry := { x with state := .waiting, claim := Claim.fresh }
  file .claimWait e.port (s.latestRelease e.port 0 e.start) (s.setMaint e.port waiting)

/-- R96: the availability test of a maintenance claim. -/
def maintClaim (e : MaintEntry) (s : State) : State :=
  if s.maintAvailable e.port e.start then
    offerIntent (.maint e.port) e.port 0 e.start
      (s.setMaint e.port (fun x => { x with state := .claiming }))
  else maintWaits e s

/-- R88, R49, R96, R175: the outcome LOST at its owner. -/
def postLost (h : Holder) (p : Nat) (s : State) : State :=
  match h with
  | .manual => { s with hall := { s.hall with manualClaim := none } }
  | .maint q =>
    match s.hall.maint.find? (fun e => decide (e.port = q)) with
    | some e => maintWaits e s
    | none => s
  | h => lostScan h p s

/-- R88: CLAIM_LOST, and the outcome posted. -/
def loseClaim (h : Holder) (p cause bay : Nat) (s : State) : State :=
  postLost h p (file .claimLost p (cause * 256 + bay) s)

/-- R90, R93: CLAIM_WON, and the outcome posted. -/
def winClaim (h : Holder) (p cls : Nat) (s : State) : State :=
  let s1 := file .claimWon p (cls * 256 + s.holderCode h) s
  match h with
  | .manual => manualWon p s1
  | .maint q => s1.setMaint q (fun e => { e with state := .held, claim := { e.claim.rest with state := .won } })
  | h => settle h s1

/-! ## The objection window (R88) -/

/-- The bay whose HELD or MAINT mark stands against a claim on p. -/
def State.rivalHold (s : State) (p : Nat) : Option Nat :=
  (s.cfg.curtainPorts p).findSome? (fun q =>
    let m := (s.portRec q).mark
    if m.taken && decide (m.owner ≠ some s.bay) then m.owner else none)

/-- The bay whose better INTENDED mark stands against the claim. -/
def State.rivalIntent (s : State) (p cls start : Nat) : Option Nat :=
  (s.cfg.curtainPorts p).findSome? (fun q =>
    match (s.portRec q).mark with
    | .intended o c st _ => if o ≠ s.bay ∧ rankBetter c st o cls start s.bay then some o else none
    | _ => none)

/-- R88: the cause and the bay by which a claim in its window is lost. Where several tests hold at once the model
names HELD before BETTER_INTENT before SUSPECT, and of several marks that of the lowest-numbered port of the
curtain (DESIGN CHOICE, entry 47). -/
def State.windowLoss (s : State) (p cls start : Nat) : Option (Nat × Nat) :=
  match s.rivalHold p with
  | some b => some (0, b)
  | none =>
    match s.rivalIntent p cls start with
    | some b => some (1, b)
    | none => (s.portRec p).suspect.map (fun x => (2, x.1))

/-- The claim's window runs. -/
def State.inWindow (s : State) (h : Holder) : Bool :=
  (s.claimOf h).any (fun c => decide (c.state = .inWindow) && c.window.isSome)

/-- R88: the test of one claim. -/
def testWindow (s : State) (h : Holder) : State :=
  match s.claimTuple h with
  | none => s
  | some t =>
    if s.inWindow h then
      match s.windowLoss t.1 t.2.1 t.2.2 with
      | some x => loseClaim h t.1 x.1 x.2 s
      | none => s
    else s

/-- R88: after each frame taken, every claim in its window is tested. -/
def testWindows (s : State) : State := s.holders.foldl testWindow s

/-- R88: the own INTENT echo opens the window of the claim it was sent for. -/
def openWindow (p cls start : Nat) (s : State) : State :=
  match s.holders.find? (fun h => decide (s.claimTuple h = some (p, cls, start)) &&
      (s.claimOf h).any (fun c => decide (c.state = .queued))) with
  | some h =>
    let till := some (s.after 250)
    s.setClaim h (fun c => { c with state := .inWindow, window := till })
  | none => s

/-- R89: the window ends without a loss and the HOLD is offered. -/
def windowEnds (h : Holder) (s : State) : State :=
  match s.claimTuple h with
  | some t =>
    let s1 := s.setClaim h (fun c => { c with window := none, holdOffered := true })
    offerKept (.hold t.1 t.2.1 (stampCode (s.claimRelease h))) false s1
  | none => s

/-! ## Own echoes (R78, R83, R90, R93, R97, R99) -/

/-- R90: the HOLD at a window's end has come back; the claim is WON or late. -/
def decideHold (h : Holder) (p cls : Nat) (s : State) : State :=
  let m := (s.portRec p).mark
  let mine := if cls = 0 then m.maintBy s.bay else m.heldBy s.bay
  match s.rivalHold p with
  | some b => offerRelease p s.bay (loseClaim h p 4 b s)
  | none =>
    if mine then winClaim h p cls s else offerRelease p s.bay (loseClaim h p 4 (m.owner.getD 255) s)

/-- R90: the claim whose HOLD this is. -/
def claimHoldEcho (p cls : Nat) (s : State) : State :=
  match s.holders.find? (fun h => (s.claimTuple h).any (fun t => decide (t.1 = p ∧ t.2.1 = cls)) &&
      (s.claimOf h).any (fun c => decide (c.state = .inWindow) && c.holdOffered)) with
  | some h => decideHold h p cls s
  | none => s

/-- R93: the claim in state NONE that waits for a refreshed HOLD of the port. -/
def State.asksFor (s : State) (p : Nat) (h : Holder) : Bool :=
  (s.claimTuple h).any (fun t => decide (t.1 = p)) &&
    (s.claimOf h).any (fun c => c.refreshAsked && decide (c.state = .unclaimed))

/-- R48, R93: the echo of the refreshed HOLD asked for a claim in NONE; CLAIM_WON names the class of the claim
(entry 33). -/
def refreshEcho (p : Nat) (s : State) : State :=
  ([Holder.current, .next, .manual].filter (s.asksFor p)).foldl
    (fun acc h => winClaim h p (((acc.claimTuple h).map (fun t => t.2.1)).getD 0) acc) s

/-- R75, R78: the latest own echo and the standing it leaves. -/
def noteHold (p : Nat) (s : State) : State :=
  s.setPort p (fun r => { r with
    lastEcho := .hold,
    standing := if r.mark.takenBy s.bay then some .confirmed else r.standing })

/-- R75, R97, R105: the own RELEASE echo; the port is given up. -/
def noteRelease (p : Nat) (s : State) : State :=
  let s1 := s.setPort p (fun r => { r with lastEcho := .release })
  { s1 with hall := { s1.hall with
      yielding := s1.hall.yielding.filter (fun q => decide (q ≠ p)),
      maint := s1.hall.maint.filter (fun e => !(decide (e.port = p) && e.releasing)) } }

/-- R93, R99: the refreshed HOLDs of the ports the own PRESENCE did not state, each with the class of the assignment
that holds the port. -/
def presenceEcho (body : PresenceBody) (s : State) : State :=
  ((List.range 32).filter (fun p => s.ownHeld p && decide (p ≠ body.held))).foldl
    (fun acc p => refreshHold p (acc.holdingClass p) (acc.portRec p).mark.release acc) s

/-- The bay's own frame has come back; `e` is its queue entry. -/
def ownEcho (e : TxEntry) (f : Frame) (s : State) : State :=
  match f with
  | .intent p cls start =>
    let s1 := receiptIntent s.bay p cls start s
    if e.withdrawn then s1 else openWindow p cls start s1
  | .object _ h reason release => receiptObject s.bay h reason (stampOf release) s
  | .hold p cls release =>
    let s1 := noteHold p (receiptHold s.bay p cls (stampOf release) s)
    if e.withdrawn then offerRelease p s.bay s1
    else if e.refresh then (if e.asked then refreshEcho p s1 else s1)
    else claimHoldEcho p cls s1
  | .release p forBay => noteRelease p (receiptRelease p forBay s)
  | .suspect p cause => receiptSuspect s.bay p cause s
  | .clear p => receiptClear p s
  | .presence body => presenceEcho body s

/-! ## Conflicts (R105, R106) -/

/-- The ports a PRESENCE states as held or in maintenance. -/
def statedPorts (b : PresenceBody) : List Nat :=
  (if b.held = 255 then [] else [b.held]) ++ b.maint

/-- R106: an own HELD mark that counts in the conflict record against bay b: one that is CONFIRMED and not being
given up, or that stands in the record already (entry 34). -/
def State.conflictMark (s : State) (b p : Nat) : Bool :=
  s.ownHeld p &&
    ((decide ((s.portRec p).standing = some .confirmed) && !s.hall.yielding.contains p) ||
      s.hall.conflicts.any (fun c => decide (c.bay = b ∧ c.own = p)))

/-- R106: every port that b states with every own mark it is in conflict with. -/
def State.conflictsWith (s : State) (b : Nat) (body : PresenceBody) : List Conflict :=
  (statedPorts body).flatMap fun q =>
    ((List.range 32).filter (fun p => s.cfg.sameCurtain q p && s.conflictMark b p)).map
      (fun p => { bay := b, stated := q, own := p })

/-- R106: what a PRESENCE makes of the entries of its sender in the conflict record. -/
def setConflicts (b : Nat) (body : PresenceBody) (s : State) : State :=
  { s with hall := { s.hall with
      conflicts := s.hall.conflicts.filter (fun c => decide (c.bay ≠ b)) ++ s.conflictsWith b body,
      conflictSince := if s.hall.conflicts.isEmpty then s.time.elapsed else s.hall.conflictSince } }

/-- R105: what this bay does for its own mark on p in conflict with the port q that bay b states. A MAINT mark is
being given up already when its entry has left the list and its RELEASE is on its way. -/
def actConflict (b q p : Nat) (s : State) : State :=
  let r := s.portRec p
  match r.standing, r.mark.heldBy s.bay with
  | some .confirmed, true =>
    if s.hall.yielding.contains p then s
    else applyInhibit (file .doubleHold p (b * 256 + q) s)
  | some .confirmed, false => file .doubleHold p (b * 256 + q) s
  | _, true => if s.hall.yielding.contains p then s else yieldPort p (file .yielded p b s)
  | _, false =>
    if s.hall.maint.any (fun e => decide (e.port = p)) || !s.releaseQueued p then
      let s1 := file .yielded p b s
      offerRelease p s.bay
        { s1 with hall := { s1.hall with maint := s1.hall.maint.filter (fun e => decide (e.port ≠ p)) } }
    else s

/-- R105: the own marks in conflict with what b states, each with the first stated port it conflicts with. -/
def State.conflictPairs (s : State) (body : PresenceBody) : List (Nat × Nat) :=
  ((List.range 32).filter (fun p => s.ownTaken p)).filterMap (fun p =>
    ((statedPorts body).find? (fun q => s.cfg.sameCurtain q p)).map (fun q => (q, p)))

/-- R106: conflicts whose own mark is no longer HELD by this bay leave the set. -/
def pruneConflicts (s : State) : State :=
  { s with hall := { s.hall with conflicts := s.hall.conflicts.filter (fun c => s.ownHeld c.own) } }

/-- R106: a bay that releases a port it had stated in conflict leaves the set. -/
def releasedConflicts (b p forBay : Nat) (s : State) : State :=
  if b = forBay ∧ s.hall.conflicts.any (fun c => decide (c.bay = b ∧ c.stated = p)) then
    { s with hall := { s.hall with conflicts := s.hall.conflicts.filter (fun c => decide (c.bay ≠ b)) } }
  else s

/-- R105, R106: the conflict rules after the entries of a PRESENCE, once for each own mark in conflict. -/
def applyConflicts (b : Nat) (body : PresenceBody) (s : State) : State :=
  (s.conflictPairs body).foldl (fun acc qp => actConflict b qp.1 qp.2 acc) (setConflicts b body s)

/-! ## Frames of other bays -/

/-- R80: the port of p's curtain that this bay holds, p itself first. -/
def State.objectPort (s : State) (p : Nat) : Option Nat :=
  if s.ownTaken p then some p else (s.cfg.curtainPorts p).find? (fun q => s.ownTaken q)

/-- R80: an INTENT on a curtain this bay holds draws an OBJECT. -/
def answerIntent (p : Nat) (s : State) : State :=
  match s.objectPort p with
  | some h =>
    let m := (s.portRec h).mark
    offerLoose (.object p h (if m.maintBy s.bay then 1 else 0) (stampCode m.release)) s
  | none => s

/-- R89: the claims of a port whose windows run. -/
def State.windowsFor (s : State) (p : Nat) : List Holder :=
  s.holders.filter (fun h => s.inWindow h && (s.claimTuple h).any (fun t => decide (t.1 = p)))

/-- R81, R88: an OBJECT loses every claim in its window for the port objected to. -/
def objectLoses (b p : Nat) (s : State) : State :=
  (s.windowsFor p).foldl (fun acc h => loseClaim h p 3 b acc) s

/-- R83, R102: a RELEASE from another bay; one that names this bay for its own hold is forced. -/
def releaseHeard (b p forBay : Nat) (s : State) : State :=
  if forBay = s.bay ∧ s.ownTaken p then s.setPort p (fun r => { r with standing := some .unconfirmed })
  else releasedConflicts b p forBay (receiptRelease p forBay s)

/-- R85: the suspects a PRESENCE states. -/
def suspectsHeard (b : Nat) (body : PresenceBody) (s : State) : State :=
  body.suspects.foldl
    (fun acc x =>
      if (acc.portRec x.1).suspect = some (b, x.2) then acc
      else file .suspectHeard x.1 (b * 256 + x.2) (receiptSuspect b x.1 x.2 acc)) s

/-- R85, R99, R105: a PRESENCE from another bay. One that carries this bay's own number refreshes no peer record
(R79). -/
def presenceHeard (b : Nat) (body : PresenceBody) (s : State) : State :=
  let s1 := suspectsHeard b body (receiptPresence b body (if b = s.bay then s else peerStates b body s))
  let s2 := applyConflicts b body s1
  if body.rollCall then offerPresence false false s2 else s2

/-- R79: the receipt rule for the kind of a frame taken with the own mark clear. -/
def foreignFrame (b : Nat) (f : Frame) (s : State) : State :=
  match f with
  | .intent p cls start => answerIntent p (receiptIntent b p cls start s)
  | .object p h reason release => objectLoses b p (receiptObject b h reason (stampOf release) s)
  | .hold p cls release => receiptHold b p cls (stampOf release) s
  | .release p forBay => releaseHeard b p forBay s
  | .suspect p cause => file .suspectHeard p (b * 256 + cause) (receiptSuspect b p cause s)
  | .clear p => file .clearHeard p b (receiptClear p s)
  | .presence body => presenceHeard b body s

/-! ## After the frame (R92, R96) -/

/-- R48: a claim that waits for its claim time. -/
def Claim.ahead (c : Claim) : Bool := decide (c.state = .unclaimed) && !c.begun

/-- R49, R92: a claim that waits for a port, or for its claim time. -/
def Claim.mayWait (c : Claim) : Bool := decide (c.state = .waitRelease) || c.ahead

/-- R83, R92: a HELD or MAINT mark that kept the wait port blocked in `before` is gone. A wait port found before the
claim time counts too (DEDUCED, entry 67). -/
def State.waitFreed (s : State) (before : State) (h : Holder) : Bool :=
  match before.record h with
  | none => false
  | some a =>
    a.claim.mayWait && (s.claimOf h).any Claim.mayWait &&
      (match a.waitPort with
       | none => false
       | some w => (before.blockers w a.cls a.segStart).any (fun q =>
           (before.portRec q).mark.taken && !(s.portRec q).mark.taken))

/-- R49, R92: the schedule records whose wait port is freed are scanned again from the top. -/
def endWaits (before : State) (s : State) : State :=
  [Holder.current, .next].foldl
    (fun acc h =>
      if !s.waitFreed before h then acc
      else if h = .next ∧ (s.claimOf h).any Claim.ahead then restartAhead acc
      else restartScan h acc) s

/-- R96: on the curtain of p a mark, or on p a suspect, has gone. -/
def State.curtainFreed (s : State) (before : State) (p : Nat) : Bool :=
  ((s.cfg.curtainPorts p).any (fun q =>
    decide ((before.portRec q).mark ≠ .free ∧ (s.portRec q).mark = .free))) ||
    ((before.portRec p).suspect.isSome && (s.portRec p).suspect.isNone)

/-- R96: the WAITING entries that may test again do so. -/
def retestMaint (before : State) (s : State) : State :=
  s.hall.maint.foldl
    (fun acc e =>
      if e.state = .waiting ∧ !e.releasing ∧ s.curtainFreed before e.port ∧
          acc.maintAvailable e.port e.start then maintClaim e acc
      else acc) s

/-- What follows every frame: the window tests, the conflicts left, the waits and the sequencer's work. -/
def afterFrame (before : State) (s : State) : State :=
  let s1 := pruneConflicts (testWindows s)
  let s2 := retestMaint before (endWaits before s1)
  let s3 := if before.conflictPause && !s2.conflictPause then liftInhibit s2 else s2
  work s3

/-- R66, R79: a frame is taken off the line. Bytes that could not pass R64 make no frame, and a link in SYNC
takes none (R60). After it the line engine is shown IDLE (DESIGN CHOICE, entry 51). -/
def takeFrame (b : Nat) (f : Frame) (s : State) : State :=
  if !deliverable b f || decide (s.link.engine = .sync) then s
  else if s.isEcho b f then
    match s.link.queue with
    | e :: _ => afterFrame s (ownEcho e f (sentWhole s))
    | [] => s
  else
    let s2 := (becomeReceiver s).setLink (fun l => { l with engine := .idle, lineIdle := false })
    let s3 := if b = s.bay then s2 else heardFrom b s2
    afterFrame s (foreignFrame b f s3)

end Sys2Proof.Machine
end

