-- ==== Sys2Proof/Machine/FaultLine.lean ====
section
/-! DEFINITION. The fault-line unit (chapter 9): levels, declarations, the actions handed on, and clearing. -/

namespace Sys2Proof.Machine

/-- Rewrites one line. -/
def State.setLine (i : Nat) (f : FaultLine → FaultLine) (s : State) : State :=
  { s with lines := { s.lines with line := s.lines.line.put i (f (s.lines.line.get i)) } }

/-- One line as it stands. -/
def State.faultLine (s : State) (i : Nat) : FaultLine := s.lines.line.get i

/-- R163: the line's level is active for this pin level. -/
def lineActive (c : LineConfig) (pin : Bool) : Bool :=
  match c.polarity with
  | .activeHigh => pin
  | .activeLow => !pin

/-- FAULT_LINE (section 11.3): event 0 DECLARED, 1 CLEARED_AUTO, 2 CLEARED_HOST, 3 INACTIVE_LATCHED. -/
def fileLine (i event : Nat) (s : State) : State :=
  file .faultLine i
    (event * 16777216 + actionCode (s.cfg.lines.get i) * 65536 + (s.faultLine i).count) s

/-- R165: a declaration, with the actions of R166 and R167. -/
def declareLine (i : Nat) (s : State) : State :=
  let c := s.cfg.lines.get i
  let fresh := !(s.faultLine i).latched
  let s1 := fileLine i 0 (s.setLine i (fun l =>
    { l with latched := true, count := min 65535 (l.count + 1) }))
  let s2 := if fresh && c.mute then applyInhibit s1 else s1
  if c.lockout then declareLockout (.faultLine i) s2 else s2

/-- R166, R117, R137: what lifts with an action that is no longer in force. -/
def liftActions (before : State) (s : State) : State :=
  let s1 := if before.muteInhibit && !s.muteInhibit then liftInhibit s else s
  if before.motionHold && !s.motionHold then afterRow (tryStart s1) else s1

/-- R167 to R169: the latched flag goes to CLEAR by the given event. -/
def clearLine (i event : Nat) (s : State) : State :=
  let s1 := s.setLine i (fun l => { l with latched := false })
  let s2 := if (s.cfg.lines.get i).report then fileLine i event s1 else s1
  liftActions s s2

/-- R165: the filtered level becoming ACTIVE declares. -/
def levelActive (i : Nat) (s : State) : State :=
  let l := s.faultLine i
  let s1 := s.setLine i (fun x => { x with filtered := .active })
  if !l.waitInactive && (decide ((s.cfg.lines.get i).detect = .edge) || !l.latched) then declareLine i s1
  else s1

/-- R167 to R169: the filtered level becoming INACTIVE. -/
def levelInactive (i : Nat) (s : State) : State :=
  let c := s.cfg.lines.get i
  let s1 := s.setLine i (fun x => { x with filtered := .inactive, waitInactive := false })
  if !(s.faultLine i).latched then s1
  else if c.clearMode = .auto then clearLine i 1 s1
  else if c.report then fileLine i 3 s1
  else s1

/-- R164: two agreeing samples that differ from the filtered level change it. -/
def agreeingSamples (i : Nat) (pin : Bool) (s : State) : State :=
  let active := lineActive (s.cfg.lines.get i) pin
  let now := (s.faultLine i).filtered
  if active then (if now = .active then s else levelActive i s)
  else if now = .inactive then s
  else levelInactive i s

/-- R164, R190: one sample of one line; before the load ends the sample is only kept. -/
def sampleLine (i : Nat) (s : State) : State :=
  let pin := s.inputs.linePins.get i
  let last := (s.faultLine i).lastPin
  let s1 := s.setLine i (fun x => { x with lastPin := some pin })
  if s.start.step ≠ .load ∧ last = some pin then agreeingSamples i pin s1 else s1

/-- R164: all four lines are sampled together, every 10 ms, and taken in the order of their numbers (DESIGN CHOICE,
entry 72). -/
def sampleLines (s : State) : State :=
  let s1 : State := { s with lines := { s.lines with sampleDue := s.lines.sampleDue + 10 } }
  [0, 1, 2, 3].foldl (fun acc i => sampleLine i acc) s1

end Sys2Proof.Machine
end

