-- ==== Sys2Proof/Machine/StartUp.lean ====
section
/-! DEFINITION. Resets, the configuration load and the start sequence (sections 11.6 and 11.7, R107, R118). -/

namespace Sys2Proof.Machine

/-! ## The configuration block (R186) -/

/-- The numbers of the block: offset, bytes, least and greatest value, in the order of the table. -/
def configFields : List (Nat × Nat × Nat × Nat) :=
  [(0, 2, 1, 6000), (2, 2, 3900, 26100), (4, 2, 3900, 26100), (6, 2, 100, 2000), (8, 2, 50, 1000),
   (10, 2, 500, 8000), (12, 2, 20, 500), (14, 2, 2000, 60000), (16, 2, 50, 1000), (18, 2, 500, 5000),
   (20, 1, 10, 120), (21, 2, 0, 600), (23, 2, 10, 600), (25, 2, 16, 1024), (27, 2, 1, 65535),
   (29, 2, 110, 500), (31, 2, 120, 600), (33, 2, 100, 900), (35, 1, 1, 60), (36, 2, 10, 600),
   (38, 2, 10, 600)]

/-- The four numbers of an antenna row at offset o. -/
def antennaFields (o : Nat) : List (Nat × Nat × Nat × Nat) :=
  [(o, 1, 0, 15), (o + 1, 2, 3900, 26100), (o + 3, 2, 3900, 26100), (o + 5, 2, 1, 6000)]

/-- A value outside its range takes the nearer bound. -/
def clamp (lo hi x : Nat) : Nat := max lo (min hi x)

/-- One byte of the block as a number. -/
def blockByte (m : Memory) (a : Nat) : Nat := (m.read a).toNat

/-- A number of the block as stored, high byte first. -/
def storedValue (m : Memory) (f : Nat × Nat × Nat × Nat) : Nat :=
  if f.2.1 = 1 then blockByte m f.1 else blockByte m f.1 * 256 + blockByte m (f.1 + 1)

/-- A number of the block after clamping. -/
def clampedValue (m : Memory) (f : Nat × Nat × Nat × Nat) : Nat := clamp f.2.2.1 f.2.2.2 (storedValue m f)

/-- A number of the block that clamping changes. -/
def fieldClamped (m : Memory) (f : Nat × Nat × Nat × Nat) : Bool :=
  decide (clampedValue m f ≠ storedValue m f)

/-- A fault line's byte. -/
def lineOf (b : Byte) : LineConfig :=
  { polarity := if b.getLsbD 0 then .activeLow else .activeHigh,
    detect := if b.getLsbD 1 then .edge else .level, mute := b.getLsbD 2, holdMotion := b.getLsbD 3,
    lockout := b.getLsbD 4, report := b.getLsbD 5,
    clearMode := match b.toNat / 64 with
      | 0 => .auto
      | 1 => .manualRearm
      | _ => .manualLevel }

/-- A lamp's byte; a source of 11 to 15 becomes NEVER and a blink of 3 FAST. -/
def lampOf (b : Byte) : LampSetting :=
  { source := (lampSourceOf (b.toNat % 16)).getD .never, blink := (blinkOf (b.toNat / 16 % 4)).getD .fast,
    invert := b.getLsbD 6 }

/-- A line byte or a lamp byte that clamping changes. -/
def optionClamped (m : Memory) : Bool :=
  [40, 41, 42, 43].any (fun a => decide (blockByte m a / 64 = 3)) ||
    [44, 45, 46, 47].any (fun a => decide (11 ≤ blockByte m a % 16 ∨ blockByte m a / 16 % 4 = 3))

/-- One antenna row, clamped. -/
def antennaOf (m : Memory) (p : Nat) : AntennaRow :=
  let v := (antennaFields (48 + 7 * p)).map (clampedValue m)
  { curtain := v.getD 0 0, fmin := v.getD 1 0, fmax := v.getD 2 0, maxPower := v.getD 3 0 }

/-- The table signature: the check of R62 over bytes 48 to 271 as stored. -/
def blockSignature (m : Memory) : Nat := (crc (m.readAll 48 224)).toNat

/-- R186: the clamped block as parameters. -/
def loadedParams (m : Memory) : Params :=
  let v := configFields.map (clampedValue m)
  { rating := v.getD 0 0, fLo := v.getD 1 0, fHi := v.getD 2 0, tMute := v.getD 3 0,
    tGuard := v.getD 4 0, tTravel := v.getD 5 0, tSettle := v.getD 6 0, tTune := v.getD 7 0,
    tStep := v.getD 8 0, tRfoff := v.getD 9 0, claimMargin := v.getD 10 0,
    lateTolerance := v.getD 11 0, minAir := v.getD 12 0, vMin := v.getD 13 0, kCal := v.getD 14 0,
    sW := v.getD 15 0, sT := v.getD 16 0, fMin := v.getD 17 0, restartHold := v.getD 18 0,
    tripWindow := v.getD 19 0, proofTime := v.getD 20 0,
    lines := (Table.fill 4 LineConfig.builtIn).mapIdx (fun i _ => lineOf (m.read (40 + i))),
    lamps := LampSetting.builtIn.mapIdx (fun i _ => lampOf (m.read (44 + i))),
    antenna := some ((Table.fill 32 (default : AntennaRow)).mapIdx (fun p _ => antennaOf m p)),
    signature := blockSignature m }

/-- R186: some value was clamped. -/
def blockClamped (m : Memory) : Bool :=
  configFields.any (fieldClamped m) || optionClamped m ||
    (List.range 32).any (fun p => (antennaFields (48 + 7 * p)).any (fieldClamped m))

/-- R186: the check word matches. -/
def checkWordMatches (m : Memory) : Bool := decide (crcBytes (m.readAll 0 272) = m.readAll 272 2)

/-- R186: the fault tests on the clamped values and the check word. -/
def blockFaulty (m : Memory) : Bool :=
  let c := loadedParams m
  decide (c.sT ≤ c.sW ∨ c.fHi < c.fLo) || !checkWordMatches m ||
    (List.range 32).any (fun p => decide ((antennaOf m p).fmax < (antennaOf m p).fmin))

/-- R186: the configuration outcome. -/
def loadOutcome (acknowledged : Bool) (m : Memory) : LoadOutcome :=
  if !acknowledged || blockFaulty m then .configFault else if blockClamped m then .clamped else .loaded

/-- R186, R187: the configuration in use after the load. -/
def loadResult (acknowledged : Bool) (m : Memory) : Params :=
  if loadOutcome acknowledged m = .configFault then Params.builtIn else loadedParams m

/-! ## Resets (R189) -/

/-- R188: the bytes of a write that was cut, or that the NVM never acknowledged: each holds either its old
value or its new one, by a free value. -/
def cutWrite : Nat → Nat → List Byte → Memory → Memory
  | _, _, [], m => m
  | free, a, x :: xs, m => cutWrite (free + 1) (a + 1) xs (if Config.byteTaken free then m.write a x else m)

/-- R188: the NVM after the cut of a pending command, and the free values used. -/
def cutNvm (s : State) : Memory × Nat :=
  match s.sup.nvmPending with
  | some c =>
    match c.write with
    | some data => (cutWrite s.free c.address data s.nvm, s.free + data.length)
    | none => (s.nvm, s.free)
  | none => (s.nvm, s.free)

/-- R38: the store kept over a HOST_RESTART. -/
def ScheduleStore.restarted (st : ScheduleStore) : ScheduleStore :=
  if st.pendingState = .checking then
    { st with pendingState := .editable, commitTarget := none, checkEnd := none, lastCheck := .notDone }
  else st

/-- R107: the claim unit after a reset, with the lists a HOST_RESTART keeps. -/
def ClaimUnit.restarted (keep : Bool) (h : ClaimUnit) : ClaimUnit :=
  if keep then
    let held := (h.maint.filter (fun e => decide (e.state = .held))).map
      (fun e => { e with releasing := false })
    { ClaimUnit.initial with maint := held, suspects := h.suspects }
  else ClaimUnit.initial

/-- R108, R118: the row at a reset; the crosspoints keep their positions, which the contacts tell (entry 39), and
sampling begins anew. The rest readings stay until the start-up read sets them (DESIGN CHOICE, entry 69). -/
def RowDriver.restarted (osc : Nat) (i : Inputs) (r : RowDriver) : RowDriver :=
  { RowDriver.initial with
    points := r.points.mapIdx (fun p x =>
      { x with reading := i.contactReading p, settled := false, defect := none, lastSample := none }),
    sampleDue := osc + 5 }

/-- R189: the reset by one cause, up to its end, with steps 1 of R190 done and step 2 begun. The first
samples of the lines and of the contacts are one period off (DESIGN CHOICE, entry 57). Of two causes at one instant
the later reset leaves its record, and the values of either kind that are cold stay cold (DESIGN CHOICE, entry 92). -/
def resetPart (cause : ResetCause) (s : State) : State :=
  let keep := decide (cause = .hostRestart)
  let time := if keep then { s.time with pendingSet := none } else TimeUnit.initial
  let nvm := cutNvm s
  let bay := s.inputs.strap % 16
  let base : State :=
    { time := time,
      store := if keep then s.store.restarted else ScheduleStore.initial,
      plan := Planner.initial, link := Link.initial, hall := s.hall.restarted keep,
      row := s.row.restarted time.osc s.inputs, seq := Sequencer.initial, manual := Manual.initial,
      prot := Protection.initial Params.builtIn.rating,
      lines := { FaultLines.initial with sampleDue := time.osc + 10 },
      sup := { Supervisor.initial with blinkZero := time.osc },
      start := { StartUp.initial with reason := cause, bay := bay },
      nvm := nvm.1, inputs := s.inputs, free := nvm.2, pending := s.pending }
  let s1 := startWatch false (base.setFloor base.stamp)
  let s2 := file .restarted 0 (resetCode cause) s1
  if keep && decide (s.store.pendingState = .checking) then file .bankCheckDone 0 (3 * 65536) s2 else s2

/-! ## The start-up read (R118) -/

/-- R118: a start-up reading that is flagged. -/
def Reading.unsound : Reading → Bool
  | .travel => true
  | .conflict => true
  | _ => false

/-- R118: the outcome of the start-up read. -/
inductive RowOutcome where
  | rowOpen
  | rowOne (port : Nat)
  | rowInvalid
  deriving DecidableEq, Repr, Inhabited

/-- R118. -/
def rowOutcome (r : Table Reading 32) : RowOutcome :=
  if r.toList.any Reading.unsound then .rowInvalid
  else
    match (r.entries.filter (fun e => decide (e.2 = .atClosed))).map Prod.fst with
    | [] => .rowOpen
    | [p] => .rowOne p
    | _ => .rowInvalid

/-- R118: the flags and reports of the read, lowest crosspoint first (DESIGN CHOICE, entry 72), and START_MULTIPLE for
two or more closed. The rest reading in their details is the start-up reading, which becomes it (DESIGN CHOICE, entry
54). -/
def flagStart (r : Table Reading 32) (s : State) : State :=
  let flagged := (r.entries.filter (fun e => e.2.unsound)).foldl
    (fun acc e => fileCrosspoint e.1 4 (readingCode e.2) (readingCode e.2)
      (acc.setPoint e.1 (fun x => { x with defect := some .start }))) s
  let closed := (r.entries.filter (fun e => decide (e.2 = .atClosed))).map Prod.fst
  match closed with
  | p :: _ :: _ => fileCrosspoint p 5 1 1 flagged
  | _ => flagged

/-- R142, R143: the start state. -/
def startState (outcome : Option LoadOutcome) (row : RowOutcome) : SeqState :=
  if outcome = some .configFault then .configFault
  else
    match row with
    | .rowOpen => .idle
    | .rowOne _ => .heldIdle
    | .rowInvalid => .matrixFault

/-- R107: step 4, the own marks. A kept maintenance port that is also the one crosspoint found closed ends MAINT
(DESIGN CHOICE, entry 81). -/
def ownMarks (row : RowOutcome) (s : State) : State :=
  let s1 :=
    match row with
    | .rowOne p => enterClosed p s
    | _ => s
  let s2 := s1.hall.maint.foldl (fun acc e => enterMaint e.port acc) s1
  s2.hall.suspects.foldl (fun acc q => receiptSuspect acc.bay q.1 q.2 acc) s2

/-- R139, R142, R143: the start state is taken, from the IDLE shown before it; MATRIX_FAULT as at any entry to it, and
CONFIG_FAULT with no current assignment (R121; what becomes of one formed before it: DESIGN CHOICE, entry 74). -/
def takeStartState (q : SeqState) (s : State) : State :=
  match q with
  | .matrixFault => enterMatrixFault (s.setSeq (fun x => { x with state := .idle }))
  | .configFault =>
    let s1 := s.setSeq (fun x => { x with state := .configFault, current := none })
    if s.seq.current.isSome then retarget (s1.setFloor s.stamp) else s1
  | _ => s.setSeq (fun x => { x with state := q })

/-- R116, R143: what follows the start state: a lockout declared before it, the path of a MANUAL_TUNE taken before it
(DESIGN CHOICE, entry 74), and a stray change for each crosspoint at rest that has moved since it was read. -/
def afterStart (s : State) : State :=
  let s1 := if s.prot.lockout.isSome then obeyLockout s else s
  let s2 := if (s1.seq.state = .idle ∨ s1.seq.state = .heldIdle) ∧ s1.seq.current.isSome then enterGuard s1 else s1
  let moved := (List.range 32).filter (fun p => s2.row.atRest p &&
    decide ((s2.point p).reading ≠ (s2.point p).rest))
  moved.foldl (fun acc p => applyAnswers (restChange p acc)) s2

/-- R118, R190: the end of step 3, with steps 4 and 5 and what follows them. -/
def finishRead (r : Table Reading 32) (s : State) : State :=
  let row := rowOutcome r
  let rested := s.row.points.mapIdx (fun i x => { x with rest := r.get i, settled := false })
  let s1 := s.setRow (fun d => { d with points := rested, watching := true, firstReadings := none })
  let s2 := flagStart r s1
  let s3 :=
    match row with
    | .rowOne p => s2.setPoint p (fun x => { x with settled := true })
    | _ => s2
  let s4 := ownMarks row (takeStartState (startState s.start.outcome row) s3)
  let window := some (s.after 1000)
  let s5 : State := { s4 with start := { s4.start with step := .rollCall, rereadAt := none,
                                                        windowEnd := window } }
  afterStart (offerPresence true true s5)

/-- R118: the first readings; a crosspoint in travel is read again once T_travel has passed. -/
def beginRead (s : State) : State :=
  let r := s.row.points.mapIdx (fun _ x => x.reading)
  if r.toList.contains .travel then
    let again := some (s.after s.cfg.tTravel)
    let s1 := s.setRow (fun d => { d with firstReadings := some r })
    { s1 with start := { s1.start with rereadAt := again } }
  else finishRead r s

/-- R118: the readings after the re-read. -/
def rereadings (first : Table Reading 32) (s : State) : Table Reading 32 :=
  first.mapIdx (fun i x => if x = .travel then (s.point i).reading else x)

/-- R144, R172: the target under the loaded configuration; a manual assignment formed before takes the loaded rating
where the power setting is the rating (DEDUCED, entry 83). -/
def retargetLoaded (s : State) : State :=
  if s.seq.current.any (fun c => c.isManual) then shapeManual s else retarget s

/-- R186, R187: the end of the load. A lamp setting commanded before it is overwritten (DESIGN CHOICE, entry 66). -/
def endLoad (acknowledged : Bool) (s : State) : State :=
  let outcome := loadOutcome acknowledged s.nvm
  let c := loadResult acknowledged s.nvm
  let s1 : State :=
    { s with
      start := { s.start with params := c, outcome := some outcome, step := .startUpRead },
      sup := { s.sup with
        lamps := c.lamps,
        sticky := { s.sup.sticky with
          configFaultSeen := s.sup.sticky.configFaultSeen || decide (outcome = .configFault) } } }
  let s2 := retargetLoaded s1
  beginRead { s2 with prot := { s2.prot with lowest := s2.prot.target } }

/-- R57, R190: the end of the roll-call window. -/
def endRollCall (s : State) : State :=
  let s1 : State := { s with start := { s.start with step := .done, windowEnd := none } }
  planNext (s1.setFloor s1.stamp)

end Sys2Proof.Machine
end

