-- ==== Sys2Proof/Machine/Store.lean ====
section
/-! DEFINITION. The commands and events of the schedule store (chapter 2), each with its own meaning. -/

namespace Sys2Proof.Machine

/-- What every command answers. -/
abbrev Answer := Host.Outcome State Fault Refusal

/-- Rewrites the store. -/
def State.setStore (f : ScheduleStore → ScheduleStore) (s : State) : State := { s with store := f s.store }

/-! ## Edits of the pending bank (R18, R19) -/

/-- R18, R19: an edit is refused while the pending bank is CHECKING or ARMED. -/
def editing (s : State) (f : State → Decision) : Decision :=
  match s.store.pendingState with
  | .checking => deny .busy s
  | .armed => deny .armed s
  | .editable => f s

/-- A slot of the pending bank rewritten. -/
def putSlot (slot : Nat) (e : BankSlot) (s : State) : State :=
  s.setStore (fun st => st.setPending (st.pendingBank.put slot e))

/-- R18. -/
def writeSlot (slot : Nat) (days : Byte) (body : EntryBody) (s : State) : Decision :=
  editing s fun s =>
    if slot ≤ 95 ∧ daysInRange days = true ∧ entryInRange s.cfg body = true then
      grant (putSlot slot
        (some { days := days, body := body, marks := body.ports.map (fun _ => .unchecked) }) s)
    else deny .badArgument s

/-- WRITE_ENTRY (R18). -/
def execWriteEntry (slot : Nat) (days : Byte) (body : EntryBody) (s : State) : Answer :=
  .next (answered 3 (writeSlot slot days body) s)

/-- R19. -/
def eraseSlots (which : EraseRef) (s : State) : Decision :=
  editing s fun s =>
    match which with
    | .slot n => if n ≤ 95 then grant (putSlot n none s) else deny .badArgument s
    | .all => grant (s.setStore (fun st => st.setPending (Table.fill 96 none)))

/-- ERASE_ENTRY (R19). -/
def execEraseEntry (which : EraseRef) (s : State) : Answer := .next (answered 5 (eraseSlots which) s)

/-- COPY_ACTIVE (R19). -/
def execCopyActive (s : State) : Answer :=
  .next (answered 6 (fun s => editing s fun s =>
    grant (s.setStore (fun st => st.setPending st.activeBank))) s)

/-! ## Reads (R20) -/

/-- The eligibility marks, one byte for each listed port, under the count of the port list (DEDUCED, entry 7). -/
def markBytes (l : List Eligibility) : List Byte := l.flatMap (fun m => byte1 (eligibilityCode m))

/-- R20: a bank slot as returned; the used flag stands for the presence byte of what follows it (DEDUCED, entry 7). -/
def slotBytes : BankSlot → List Byte
  | none => byteFlag false
  | some e => byteFlag true ++ [e.days] ++ entryBytes e.body ++ markBytes e.marks

/-- R20: an override as returned. -/
def overrideBytes (o : Override) : List Byte :=
  byte2 o.date ++ entryBytes o.body ++ markBytes o.marks ++ byte4 o.start ++ byte4 o.stop

/-- R20. -/
def readEntry (which : EntryRef) (s : State) : Decision :=
  match which with
  | .active n =>
    if n ≤ 95 then (s, .done, slotBytes (s.store.activeBank.get n)) else deny .badArgument s
  | .pending n =>
    if n ≤ 95 then (s, .done, slotBytes (s.store.pendingBank.get n)) else deny .badArgument s
  | .override tag =>
    match s.store.overrides.find? (fun o => decide (o.tag = tag)) with
    | some o => (s, .done, overrideBytes o)
    | none => deny .notFound s

/-- READ_ENTRY (R20). -/
def execReadEntry (which : EntryRef) (s : State) : Answer := .next (answered 4 (readEntry which) s)

/-- R20: the last check result with its slot numbers. -/
def checkBytes (r : CheckResult) : List Byte :=
  (if r = .none then byteOpt byte1 none else byteOpt byte1 (some (checkCode r))) ++
    (match r with
     | .overlap a b => byteOpt byte2 (some a) ++ byteOpt byte2 (some b)
     | .noEligiblePort a => byteOpt byte2 (some a) ++ byteOpt byte2 none
     | _ => byteOpt byte2 none ++ byteOpt byte2 none)

/-- R20: what READ_BANK_STATE returns. The store number takes one byte (DEDUCED, entry 7). -/
def bankStateBytes (st : ScheduleStore) : List Byte :=
  byte1 st.activeNo ++ byte1 (pendingStateCode st.pendingState) ++ byteOpt byte4 st.armedAt
    ++ checkBytes st.lastCheck ++ byte1 (usedSlots st.bank0).length ++ byte1 (usedSlots st.bank1).length
    ++ byte1 st.overrides.length

/-- READ_BANK_STATE (R20). -/
def execReadBankState (s : State) : Answer :=
  .next (answered 9 (fun s => (s, .done, bankStateBytes s.store)) s)

/-! ## Commit, check, switch (R21 to R28) -/

/-- R21: the check begins; its length up to 50 ms is free. The state of the pending bank is tested before the stamp
(DEDUCED, entry 28). -/
def commit (target : CommitTarget) (s : State) : Decision :=
  editing s fun s =>
    let bad := match target with
      | .stamp t => decide (stampMax < t)
      | .now => false
    if bad then deny .badArgument s
    else
      let finish := some (s.after (min 50 (Config.checkMs s.free)))
      let s1 := s.setStore (fun st =>
        { st with pendingState := .checking, commitTarget := some target, checkEnd := finish })
      grant { s1 with free := s1.free + 1 }

/-- COMMIT_BANK (R21). -/
def execCommitBank (target : CommitTarget) (s : State) : Answer := .next (answered 7 (commit target) s)

/-- R25. -/
def disarm (s : State) : Decision :=
  match s.store.pendingState with
  | .editable => deny .wrongState s
  | .checking => deny .busy s
  | .armed =>
    grant (replanAll (s.setStore (fun st =>
      { st with pendingState := .editable, switchStamp := none, commitTarget := none })))

/-- DISARM_BANK (R25). -/
def execDisarmBank (s : State) : Answer := .next (answered 8 disarm s)

/-- R26, R27, R55: the switch of the roles, and the hold-over of the current assignment. -/
def swapRoles (s : State) : State :=
  let former := s.store.activeNo
  let s1 := s.setStore (fun st =>
    { st with oneActive := !st.oneActive, pendingState := .editable, switchStamp := none,
              commitTarget := none, lastCheck := .none })
  holdOver former (file .bankSwitched s1.store.activeNo s1.stamp s1)

/-- R26, R36, R54: the switch, with the signal SWITCHED. -/
def switchRoles (s : State) : State := replanFrom s (swapRoles s)

/-- R26: the armed switch stamp is reached and the time quality lets it be compared. -/
def State.switchDue (s : State) : Bool :=
  decide (s.time.quality ≠ .unset) && s.store.armedAt.any (fun w => decide (w ≤ s.stamp))

/-- SWITCH (R26). -/
def execSwitch (s : State) : Answer := .next (if s.switchDue then switchRoles s else s)

/-- R24: the subject of BANK_CHECK_DONE. -/
def checkSubject : CheckResult → Nat
  | .overlap a _ => a
  | .noEligiblePort a => a
  | _ => 0

/-- R24: slot b of the detail of BANK_CHECK_DONE. -/
def checkSecond : CheckResult → Nat
  | .overlap _ b => b
  | _ => 0

/-- R24: the check ends. -/
def endCheck (s : State) : State :=
  let bank := s.store.pendingBank
  let result := checkOutcome s.cfg bank
  let target := s.store.commitTarget
  let s1 := s.setStore (fun st =>
    { st.setPending (markBank s.cfg bank) with
      lastCheck := result, checkEnd := none, pendingState := .editable, commitTarget := none })
  let s2 := file .bankCheckDone (checkSubject result) (checkCode result * 65536 + checkSecond result) s1
  if result = .accepted then
    match target with
    | some (.stamp w) =>
      let s3 := s2.setStore (fun st => { st with pendingState := .armed, switchStamp := some w })
      if s3.switchDue then switchRoles s3 else replanAll s3
    | some .now => switchRoles s2
    | none => s2
  else s2

/-- BANK_CHECK_END (R24). -/
def execBankCheckEnd (s : State) : Answer :=
  .next (if s.store.pendingState = .checking then endCheck s else s)

/-! ## Overrides (R30 to R33) -/

/-- R54, R179: the end of the current assignment is this instant, and the planner plans for it. -/
def planEnded (s : State) : State :=
  let now := s.stamp
  let s1 := s.setCurrent (fun c => { c with toAssignment := { c.toAssignment with segEnd := some now } })
  planTaken (s1.setFloor now)

/-- R54: the current assignment ends at this instant, and the record for now is taken or its path begins. A record
chained to it (R43) that only starts within its lead is taken too (DESIGN CHOICE, entry 75). -/
def endCurrentNow (s : State) : State := currentEnds true (planEnded s)

/-- R30: the first test of PUT_OVERRIDE. -/
def overrideInRange (c : Params) (o : Override) : Bool :=
  entryInRange c o.body && decide (o.date ≤ 65535) && decide (o.stop ≤ stampMax)

/-- R30, R31. -/
def putOverride (date : Nat) (body : EntryBody) (s : State) : Decision :=
  let o : Override :=
    { tag := lowestTag s.store.overrides, date := date, body := body, marks := bandMarks s.cfg body }
  if !overrideInRange s.cfg o then deny .badArgument s
  else if s.time.quality = .unset then deny .wrongState s
  else if o.stop ≤ s.stamp then deny .badArgument s
  else if 16 ≤ s.store.overrides.length then deny .full s
  else if s.store.overrides.any (fun x => spansMeet o.start o.stop x.start x.stop) then deny .overlap s
  else
    let s1 := s.setStore (fun st => { st with overrides := insertOverride o st.overrides })
    (if s1.endedByPut o then endCurrentNow s1 else replanAll s1, .done, byte1 o.tag)

/-- PUT_OVERRIDE (R30). -/
def execPutOverride (date : Nat) (body : EntryBody) (s : State) : Answer :=
  .next (answered 10 (putOverride date body) s)

/-- R33. -/
def dropOverride (tag : Nat) (s : State) : Decision :=
  if 15 < tag then deny .badArgument s
  else
    match s.store.overrides.find? (fun o => decide (o.tag = tag)) with
    | none => deny .notFound s
    | some o =>
      let s1 := s.setStore (fun st =>
        { st with overrides := st.overrides.filter (fun x => decide (x.tag ≠ tag)) })
      grant (if s1.endedByDrop o then endCurrentNow s1 else replanAll s1)

/-- DROP_OVERRIDE (R33). -/
def execDropOverride (tag : Nat) (s : State) : Answer := .next (answered 11 (dropOverride tag) s)

/-- R32: the overrides whose end is reached leave the list. -/
def expireOverrides (s : State) : State :=
  s.setStore (fun st => { st with overrides := unexpired s.stamp st.overrides })

/-- OVERRIDE_EXPIRY (R32). -/
def execOverrideExpiry (s : State) : Answer := .next (expireOverrides s)

end Sys2Proof.Machine
end

