-- ==== Sys2Proof/Machine/TimeBase.lean ====
section
/-! DEFINITION. The commands and events of the time unit (chapter 1), with what a time set does to the
planner (R12 to R15). -/

namespace Sys2Proof.Machine

/-- Rewrites the time unit. -/
def State.setClock (f : TimeUnit → TimeUnit) (s : State) : State := { s with time := f s.time }

/-! ## Time jumps (R12 to R15) -/

/-- R15: the segments wholly within the skipped interval that start in the first 24 h of it, in order. -/
def skippedSegments (st : ScheduleStore) (expected new : Nat) : Nat → Nat → List Segment
  | 0, _ => []
  | fuel + 1, x =>
    if expected + daySeconds ≤ x then []
    else
      match nextSegment st x (expected + daySeconds) with
      | none => []
      | some g =>
        if new < g.stop then []
        else if g.start < expected then skippedSegments st expected new fuel g.stop
        else g :: skippedSegments st expected new fuel g.stop

/-- R13, R14: the current assignment is kept at a jump to the present stamp. -/
def State.keptAtJump (s : State) (c : Current) : Bool :=
  c.isManual || (c.segEnd.any (fun e => decide (s.stamp < e)) &&
    (s.seq.state.inFlight || decide (c.segStart ≤ s.stamp)))

/-- R13 to R15: the source and start of an assignment that has not reached ON_AIR and that the jump ends. -/
def State.abandonedByJump (s : State) : List (Nat × Nat) :=
  match s.seq.current with
  | some c =>
    if !s.keptAtJump c && c.onAirStamp.isNone then [(sourceCode c.source, c.segStart)] else []
  | none => []

/-- R15: the ENTRY_MISSED reports of a forward jump, from the store as it stood; `ended` is the assignment that the
jump abandons. They are filed only while the planner plans (R57): beside manual mode, which the Note of
section 1.5 names, none is filed in CONFIG_FAULT or before the roll-call window has closed (DESIGN CHOICE,
entry 20). -/
def fileSkipped (expected : Nat) (ended : List (Nat × Nat)) (s : State) : State :=
  if s.canPlan && decide (expected < s.stamp) then
    let gs := skippedSegments s.store expected s.stamp 2000 (max expected s.plan.floor)
    let all := ended ++ gs.map (fun g => (g.occ.number, g.start))
    all.foldl (fun acc x => file .entryMissed x.1 x.2 acc) s
  else s

/-- R12: the schedule store acts on the new time. -/
def storeAtSet (s : State) : State := expireOverrides (if s.switchDue then swapRoles s else s)

/-- R13, R14: a current assignment that is not kept ends at the application. One that has not reached ON_AIR is
reported by R15 alone, so a backward jump reports none (DESIGN CHOICE, entry 59). Where no segment applies at the new
stamp, a record that starts within its lead is chained to this end (R43) and taken at it (DESIGN CHOICE, entry 75). -/
def jumpCurrent (jump : Bool) (s : State) : State :=
  match s.seq.current with
  | none => s.setFloor s.stamp
  | some c =>
    if c.isManual then s.setFloor s.stamp
    else if !jump || s.keptAtJump c then s
    else
      let s1 := s.setCurrent (fun x =>
        { x with toAssignment := { x.toAssignment with segEnd := some s.stamp } })
      currentEnds false (planTaken (s1.setFloor s.stamp))

/-- R12: the application of a set is handed to the planner. -/
def handSet (expected : Nat) (wasUnset : Bool) (s : State) : State :=
  let jump := !wasUnset && decide (s.stamp ≠ expected)
  let s1 := if jump then fileSkipped expected (storeAtSet s).abandonedByJump s else s
  replanFrom s (jumpCurrent jump (storeAtSet s1))

/-! ## Setting and reading the time (R7, R8, R11) -/

/-- The calendar count as given, the phase 0. -/
def TimeUnit.given (date second : Nat) (t : TimeUnit) : TimeUnit :=
  { t with day := date, second := second, phaseZero := t.osc, pendingSet := none }

/-- R11: a set applied at once. -/
def setAtOnce (date second : Nat) (s : State) : State :=
  let old := s.stamp
  let wasUnset := decide (s.time.quality = .unset)
  let s1 := s.setClock (TimeUnit.given date second)
  let s2 := if wasUnset then
      s1.setClock (fun t => { t with quality := .holdover, holdoverSince := t.elapsed }) else s1
  handSet old wasUnset (file .timeSet 0 old s2)

/-- R8. -/
def setTime (date second : Nat) (s : State) : Decision :=
  if 86399 < second ∨ stampMax < date * daySeconds + second then deny .badArgument s
  else if s.ppsPresent then grant (s.setClock (fun t => { t with pendingSet := some (date, second) }))
  else grant (setAtOnce date second s)

/-- SET_TIME (R8). -/
def execSetTime (date second : Nat) (s : State) : Answer := .next (decided 1 (setTime date second) s)

/-- R7: what READ_TIME returns. That a set is pending is the presence byte of its date and second (DEDUCED, entry 7). -/
def timeBytes (s : State) : List Byte :=
  byte2 s.time.day ++ byte4 s.time.second ++ byte2 s.phase ++ byte1 (weekdayOf s.time.day)
    ++ byte1 (qualityCode s.time.quality) ++ byte1 s.time.run
    ++ byteOpt byte2 (s.time.lastEdge.map (fun t => s.time.osc - t)) ++ byte4 s.time.elapsed
    ++ byteOpt (fun p => byte2 p.1 ++ byte4 p.2) s.time.pendingSet

/-- READ_TIME (R7). -/
def execReadTime (s : State) : Answer := .next (decided 2 (fun s => (s, .done, timeBytes s)) s)

/-! ## Counting (R2 to R6, R9, R10) -/

/-- R2, R3: one second counted on both counts. -/
def TimeUnit.count (t : TimeUnit) : TimeUnit :=
  { advanceElapsed (advanceCalendar t) with lastCounted := some t.osc }

/-- INTERNAL_SECOND (R2): the phase reaches 1000 ms. The planner looks for a next record (R41). -/
def execInternalSecond (s : State) : Answer :=
  let s1 := s.reach (s.time.phaseZero + 1000)
  .next (planNext (s1.setClock (fun t => TimeUnit.count { t with phaseZero := t.osc })))

/-- R5: the PPS history at an edge. -/
def TimeUnit.edge (t : TimeUnit) : TimeUnit :=
  let spaced := t.lastEdge.any (fun e => decide (950 ≤ t.osc - e ∧ t.osc - e ≤ 1050))
  { t with lastEdge := some t.osc, run := if spaced then min 3 (t.run + 1) else 1,
           silence := some (t.osc + 2500) }

/-- R3: a second was counted within the last 100 ms. -/
def TimeUnit.justCounted (t : TimeUnit) : Bool := t.lastCounted.any (fun c => decide (t.osc - c ≤ 100))

/-- R6: a run of 3 ends HOLDOVER, with TIME_LOCKED. -/
def relock (s : State) : State :=
  if s.time.quality = .holdover ∧ s.time.run = 3 then
    file .timeLocked 0 (elapsedCount (s.time.elapsed - s.time.holdoverSince))
      (s.setClock (fun t => { t with quality := .locked }))
  else s

/-- The stamp at the edge is kept for TIME_HOLDOVER (R6). -/
def noteEdge (s : State) : State := s.setClock (fun t => { t with lastEdgeStamp := s.stamp })

/-- R3: an edge with no set pending. -/
def plainEdge (s : State) : State :=
  let s1 := s.setClock (fun t =>
    let u := { t.edge with phaseZero := t.osc }
    if t.justCounted then u else u.count)
  let s2 := noteEdge (relock s1)
  if s.time.justCounted then s2 else planNext s2

/-- R10: an edge that applies the pending set. -/
def setEdge (date second : Nat) (s : State) : State :=
  let old := s.stamp
  let wasUnset := decide (s.time.quality = .unset)
  let s1 := s.setClock (fun t =>
    { advanceElapsed (TimeUnit.given date second t.edge) with lastCounted := some t.osc })
  let s2 := if wasUnset then
      s1.setClock (fun t => { t with quality := if t.run = 3 then .locked else .holdover,
                                     holdoverSince := t.elapsed })
    else s1
  let s3 := file .timeSet 0 old s2
  handSet (old + 1) wasUnset (noteEdge (if wasUnset then s3 else relock s3))

/-- PPS_EDGE (R3, R10). -/
def execPpsEdge (s : State) : Answer :=
  .next (match s.time.pendingSet with
    | some p => setEdge p.1 p.2 s
    | none => plainEdge s)

/-- R6: silence in LOCKED. -/
def fallToHoldover (s : State) : State :=
  if s.time.quality = .locked then
    file .timeHoldover 0 s.time.lastEdgeStamp
      (s.setClock (fun t => { t with quality := .holdover, holdoverSince := t.elapsed }))
  else s

/-- R9: the pending set is lost. -/
def losePendingSet (s : State) : State :=
  if s.time.pendingSet.isSome then
    file .timeSet 0 stampNone (s.setClock (fun t => { t with pendingSet := none }))
  else s

/-- SILENCE_TIMER_EXPIRY (R5, R6, R9). -/
def execSilenceTimerExpiry (s : State) : Answer :=
  match s.time.silence with
  | none => .next s
  | some t =>
    let s1 := (s.reach t).setClock (fun u => { u with silence := none, run := 0, lastEdge := none })
    .next (losePendingSet (fallToHoldover s1))

end Sys2Proof.Machine
end

