-- ==== Sys2Proof/Machine/Views.lean ====
section
/-! DEFINITION. The views the host can read, as the bytes they return (R58, R73, R75, R98, R119, R121, R161,
R171, R172, R182, R183). Where R181 states no coding the choice is that of entry 7. -/

namespace Sys2Proof.Machine

/-! ## READ_PLAN (R58) -/

/-- R58: PLANNING 0, or the first of UNSET 1, CONFIG_FAULT 2, MANUAL 3 and ROLL_CALL 4 that holds. -/
def State.planCondition (s : State) : Nat :=
  if s.time.quality = .unset then 1
  else if s.seq.state = .configFault then 2
  else if s.manual.flag then 3
  else if s.start.step ≠ .done then 4
  else 0

/-- The source of a segment: number and occurrence start day, or 254 for MANUAL. -/
def sourceBytes (x : Source) : List Byte :=
  byte1 (sourceCode x) ++
    (match x with
     | .entry _ day => byteOpt byte2 (some day)
     | .manual => byteOpt byte2 none)

/-- R58: the current assignment. -/
def currentBytes (c : Current) : List Byte :=
  sourceBytes c.source ++ byteOpt byte4 (if c.isManual then none else some c.segStart)
    ++ byteOpt byte4 c.segEnd ++ bytePort c.port ++ byteOpt byte2 c.freq ++ byte1 (kindCode c.kind)
    ++ byte4 (stampCode c.release) ++ byte1 (claimStateCode c.claim.state) ++ bytePort c.waitPort
    ++ byteOpt byte4 c.claim.retryAt

/-- The day of the occurrence a source names. -/
def sourceDay : Source → Nat
  | .entry _ day => day
  | .manual => 0

/-- R58: every field of the next assignment record. Its day, segment end and frequency are never absent (section
3.2), so they go out without a presence byte (R181). -/
def nextBytes (a : Assignment) : List Byte :=
  byte1 (sourceCode a.source) ++ byte2 (sourceDay a.source) ++ byte4 a.segStart ++ byte4 (a.segEnd.getD 0)
    ++ byte2 (a.freq.getD 0)
    ++ byte2 a.power ++ byte1 a.cls ++ byte1 a.programme
    ++ byteList (fun q => byte1 q.1 ++ byteFlag q.2) a.ports ++ bytePort a.chosen
    ++ byteFlag a.keepsPort ++ bytePort a.waitPort ++ byte1 (kindCode a.kind) ++ byte1 (pathCode a.path)
    ++ byteFlag a.chained ++ byte4 a.lead ++ byte4 a.changeoverStart ++ byte4 a.claimTime
    ++ byte4 a.giveUp ++ byte4 (stampCode a.release) ++ byte1 (claimStateCode a.claim.state)
    ++ byteOpt byte4 a.claim.retryAt

/-- R58. -/
def planBytes (s : State) : List Byte :=
  byte1 s.planCondition ++ byte4 s.floorNow ++ byteOpt currentBytes s.seq.current
    ++ byteOpt nextBytes s.plan.next

/-- READ_PLAN (R58). -/
def execReadPlan (s : State) : Answer := .next (decided 12 (fun s => (s, .done, planBytes s)) s)

/-! ## READ_MAP (R75, R119) -/

/-- R75: a port blocked to the schedule by a HELD or MAINT mark (entry 7 on INTENDED marks). -/
def State.blockedByHold (s : State) (p : Nat) : Bool :=
  (s.cfg.curtainPorts p).any (fun q =>
    match (s.portRec q).mark with
    | .held o _ _ => decide (o ≠ s.bay)
    | .maint o _ _ => decide (o ≠ s.bay ∨ q ≠ p)
    | _ => false)

/-- The fields that go with a mark: owner, class, start stamp, release stamp, lapse count. -/
def markDataBytes : Mark → List Byte
  | .free => byteOpt byte1 none ++ byteOpt byte1 none ++ byteOpt byte4 none ++ byteOpt byte4 none
      ++ byteOpt byte4 none
  | .intended o c st l => byteOpt byte1 (some o) ++ byteOpt byte1 (some c) ++ byteOpt byte4 (some st)
      ++ byteOpt byte4 none ++ byteOpt byte4 (some l)
  | .held o c r => byteOpt byte1 (some o) ++ byteOpt byte1 (some c) ++ byteOpt byte4 none
      ++ byteOpt byte4 (some (stampCode r)) ++ byteOpt byte4 none
  | .maint o c r => byteOpt byte1 (some o) ++ byteOpt byte1 (some c) ++ byteOpt byte4 none
      ++ byteOpt byte4 (some (stampCode r)) ++ byteOpt byte4 none

/-- R75, R181: the last own echo, HOLD or RELEASE, behind its presence byte. -/
def ownEchoBytes (x : OwnEcho) : List Byte := byteOpt byte1 (ownEchoCode x)

/-- R75: one record of the map with the port's curtain and what blocks it. -/
def portBytes (s : State) (p : Nat) : List Byte :=
  let r := s.portRec p
  byte1 (markCode r.mark) ++ markDataBytes r.mark
    ++ byteOpt (fun x => byte1 x.1 ++ byte1 x.2) r.suspect
    ++ byteOpt (fun x => byte1 (standingCode x)) r.standing ++ ownEchoBytes r.lastEcho
    ++ byte1 (s.cfg.curtain p) ++ byteFlag (s.blockedByHold p) ++ byteFlag r.suspect.isSome
    ++ byteFlag (s.point p).defect.isSome

/-- R119: one crosspoint of the row view. -/
def pointBytes (x : Crosspoint) : List Byte :=
  byte1 (readingCode x.reading) ++ byte1 (readingCode x.rest) ++ byteFlag x.settled
    ++ byteOpt (fun d => byte1 (defectCode d)) x.defect

/-- R119: the motion state and its code. -/
def motionCode : Motion → Nat
  | .still => 0
  | .opening _ => 1
  | .closing _ => 2
  | .settling _ => 3

/-- R119: the condition that holds the waiting command back: MOTION_HOLD 0, NO_CLEARANCE 1, BEHIND_PULSE 2. Where
several hold, BEHIND_PULSE is shown first and MOTION_HOLD next, and a recovery open that waits counts as a
pulse (DESIGN CHOICE, entry 48). -/
def State.holdBack (s : State) : Nat :=
  if s.row.motion ≠ .still ∨ s.row.recoveryOf.isSome then 2 else if s.motionHold then 0 else 1

/-- R119: the waiting command: OPEN 0 or CLOSE 1, and its port. -/
def commandBytes : RowCommand → List Byte
  | .openPort p => byte1 0 ++ byte1 p
  | .closePort p => byte1 1 ++ byte1 p

/-- R119: the row view. The time remaining takes two bytes, as an argument in ms does (entry 7). -/
def rowBytes (s : State) : List Byte :=
  let remaining := (s.row.travelTimer.or s.row.settleTimer).map (fun t => t - s.time.osc)
  s.row.points.toList.flatMap pointBytes ++ byte1 (motionCode s.row.motion)
    ++ bytePort s.row.motion.subject ++ byteFlag s.row.recoveryMark ++ byteOpt byte2 remaining
    ++ byteOpt (fun c => commandBytes c ++ byte1 s.holdBack) s.row.waiting

/-- READ_MAP (R75, R119). -/
def execReadMap (s : State) : Answer :=
  .next (decided 13 (fun s => (s, .done, (List.range 32).flatMap (portBytes s) ++ rowBytes s)) s)

/-! ## READ_PEERS (R98, R73) -/

/-- R98: the body of a PRESENCE as shown. -/
def bodyBytes (b : PresenceBody) : List Byte :=
  byte1 (presenceFlags b) ++ byte1 b.reason ++ byte2 b.signature ++ byte1 b.held ++ byte4 b.release
    ++ byteList byte1 b.maint ++ byteList (fun q => byte1 q.1 ++ byte1 q.2) b.suspects

/-- R98: the bay's own values, in the form of a PRESENCE whose roll-call request and restarted flags are clear (DESIGN
CHOICE, entry 96); CONFIG_FAULT is shown as it stands. -/
def State.ownBody (s : State) : PresenceBody :=
  s.fillPresence { rollCall := false, restarted := false, configFault := false, reason := 0,
                   signature := 0, held := 255, release := stampNone, maint := [], suspects := [] }

/-- R98: one record of the peer table. The code of SELF and the last-frame count of the own record are free, and what a
PRESENCE states has one presence byte as a whole (entry 7). -/
def peerBytes (s : State) (b : Nat) : List Byte :=
  let r := s.hall.peers.get b
  if b = s.bay then
    byte1 Config.selfCode ++ byte4 (Config.selfLastFrame s.time.osc) ++ byteOpt bodyBytes (some s.ownBody) ++ byteFlag false
  else
    byte1 (presenceCode r.presence) ++ byte4 r.lastFrame ++ byteOpt bodyBytes r.body
      ++ byteFlag r.mismatch

/-- R73: one entry of the transmit queue. -/
def queueBytes (e : TxEntry) : List Byte :=
  byte1 (frameKindCode e.frame) ++ bytePort (framePort e.frame) ++ byteFlag e.parkedUntil.isSome
    ++ byteOpt byte4 e.parkedUntil

/-- R73: the link's state. The drop count takes two bytes, and the count of the queue entries goes before them in one
byte (DEDUCED, entry 7). -/
def linkBytes (l : Link) : List Byte :=
  byte1 (engineCode l.engine) ++ byteFlag l.busFault ++ byte2 l.drops ++ byte1 l.resend
    ++ byteList queueBytes l.queue

/-- READ_PEERS (R98, R73). -/
def execReadPeers (s : State) : Answer :=
  .next (decided 14 (fun s =>
    (s, .done, (List.range 16).flatMap (peerBytes s) ++ linkBytes s.link)) s)

/-! ## READ_PROTECTION (R161) -/

/-- R161: the last sample, counted 0 or below floor 1. Its numbers take two bytes each (DEDUCED, entry 7). -/
def sampleBytes (x : Sample) : List Byte :=
  byteFlag (!x.counted) ++ byte2 x.vf ++ byte2 x.vr ++ byte2 x.rho ++ byte2 x.s ++ byte2 x.f ++ byte2 x.pf

/-- R161: a trip entry. -/
def tripBytes (t : Trip) : List Byte :=
  byte4 t.elapsed ++ byte4 t.stamp ++ byte1 (tripCode t.cause) ++ bytePort t.port

/-- R161: a lockout record: cause, port and stamp. -/
def lockoutBytes (l : Lockout) : List Byte :=
  byte1 (lockoutCode l.cause) ++ bytePort l.port ++ byte4 l.stamp

/-- R159, R161: the last lockout cleared: its cause and stamp. -/
def lastLockoutBytes (l : LastLockout) : List Byte := byte1 (lockoutCode l.cause) ++ byte4 l.stamp

/-- A named value of two, coded by the order in which the manual first lists them (R181): 0 for the first. -/
def byteFirst (b : Bool) : List Byte := byteFlag (!b)

/-- R161. The pair flag is set or clear and the TX-drop watch armed or disarmed (section 8.1); an
input level is 1 while active (DEDUCED, entry 7). -/
def protectionBytes (s : State) : List Byte :=
  let p := s.prot
  byte2 p.target ++ byte2 p.step ++ byteOpt sampleBytes p.last ++ byteFirst p.pairFlag
    ++ byteFlag p.foldback ++ byte2 p.limit ++ byte2 p.lowest ++ byteOpt byte2 p.ceiling
    ++ byteFlag p.recoveryTimer.isSome ++ byte1 (capStateCode p.capState) ++ byte2 p.cap
    ++ byte2 s.valueInUse ++ byte2 p.demand ++ byteList tripBytes p.trips ++ byteFlag p.lockout.isSome
    ++ byteOpt lockoutBytes p.lockout ++ byteOpt lastLockoutBytes p.lastLockout ++ byteFlag s.muteInhibit
    ++ byteFirst p.txDropArmed ++ byteFlag s.inputs.arc ++ byteFlag s.inputs.rfPresent
    ++ byteOpt (fun x => byte1 x.1 ++ byte4 (s.time.elapsed - x.2)) p.proof

/-- READ_PROTECTION (R161). -/
def execReadProtection (s : State) : Answer :=
  .next (decided 15 (fun s => (s, .done, protectionBytes s)) s)

/-! ## READ_STATUS (R182) -/

/-- R171: one fault line. The declaration count takes two bytes (DEDUCED, entry 7). -/
def lineBytes (s : State) (i : Nat) : List Byte :=
  let c := s.cfg.lines.get i
  let l := s.faultLine i
  byteFlag (decide (c.polarity = .activeLow)) ++ byteFlag (decide (c.detect = .edge))
    ++ byte1 (actionCode c)
    ++ byte1 (match c.clearMode with
        | .auto => 0
        | .manualRearm => 1
        | .manualLevel => 2)
    ++ byteOpt (fun pin => byteFlag (!lineActive c pin)) l.lastPin ++ byte1 (filteredCode l.filtered)
    ++ byteFlag (!l.latched) ++ byteFlag l.waitInactive ++ byte2 l.count

/-- R171: the set of actions in force for the bay. -/
def State.actionsCode (s : State) : Nat :=
  (if s.muteInhibit then 1 else 0) + (if s.motionHold then 2 else 0) + (if s.lockoutAction then 4 else 0)
    + (if s.actionInForce LineConfig.report then 8 else 0)

/-- R121: what READ_STATUS returns of the sequencer; clearance is given or withdrawn. Outside REPOSITION the row
sub-state is the one last held (DESIGN CHOICE, entry 70). -/
def seqBytes (s : State) : List Byte :=
  byte1 (seqStateCode s.seq.state) ++ byte1 (rowSubCode s.seq.rowSub) ++ byte1 (tuneSubCode s.seq.tuneSub)
    ++ byteFirst s.seq.clearance ++ byteFlag s.manual.flag

/-- R172: the manual settings; ON is 0 and OFF 1, in the order of the table. -/
def manualBytes (s : State) : List Byte :=
  bytePort s.manual.port ++ byte1 s.manual.cls ++ byteOpt byte2 s.manual.freq
    ++ byte2 (s.manual.power.getD s.cfg.rating) ++ byte1 s.manual.programme ++ byteFlag (!s.manual.rfOn)
    ++ byteOpt byte2 s.manual.tuned
    ++ byte1 ((s.hall.manualClaim.map (fun m => claimStateCode m.claim.state)).getD 0)
    ++ bytePort (s.hall.manualClaim.map ManualClaim.port)

/-- A set of the four sticky flags in one byte (R181). -/
def stickyCode (f : Sticky) : Nat :=
  (if f.reportLost then 1 else 0) + (if f.busFaultSeen then 2 else 0) + (if f.tripSeen then 4 else 0)
    + (if f.configFaultSeen then 8 else 0)

/-- The four condition flags in one byte, in the order of R184. -/
def State.conditionCode (s : State) : Nat :=
  (if s.lockedFlag then 1 else 0) + (if s.matrixFaultFlag then 2 else 0)
    + (if s.holdoverFlag then 4 else 0) + (if s.manualFlag then 8 else 0)

/-- The five enables in one byte (R181). -/
def enablesCode (e : Enables) : Nat :=
  (if e.reportLost then 1 else 0) + (if e.busFaultSeen then 2 else 0) + (if e.tripSeen then 4 else 0)
    + (if e.configFaultSeen then 8 else 0) + (if e.queue then 16 else 0)

/-- R182: the setting of a lamp and whether it is lit. -/
def lampBytes (s : State) (i : Nat) : List Byte :=
  let l := s.sup.lamps.get i
  byte1 (lampSourceCode l.source) ++ byte1 (blinkCode l.blink) ++ byteFlag l.invert
    ++ byteFlag (s.lampLit i)

/-- R182. The manual flag, which R121 and R172 both list, goes out once (DEDUCED, entry 7). -/
def statusBytes (s : State) : List Byte :=
  seqBytes s ++ (List.range 4).flatMap (lineBytes s) ++ byte1 s.actionsCode ++ manualBytes s
    ++ byte1 s.bay ++ byte1 (resetCode s.start.reason) ++ byteOpt (fun o => byte1 (loadCode o)) s.start.outcome
    ++ byte1 (stepCode s.start.step) ++ byte1 (stickyCode s.sup.sticky) ++ byte1 s.conditionCode
    ++ byte1 (enablesCode s.sup.enables) ++ byte1 s.sup.reports.length
    ++ (List.range 4).flatMap (lampBytes s)

/-- READ_STATUS (R182). -/
def execReadStatus (s : State) : Answer := .next (decided 29 (fun s => (s, .done, statusBytes s)) s)

/-! ## READ_REPORT (R183) -/

/-- A report record as returned. -/
def reportBytes (r : Report) : List Byte :=
  byte4 r.stamp ++ byte1 (reportKindCode r.kind) ++ byte1 r.subject ++ byte4 r.detail

/-- R183: the oldest record leaves the queue; on an empty queue the empty mark is returned, its stamp
free (entry 7). -/
def readReport (s : State) : Decision :=
  match s.sup.reports with
  | r :: rest => ({ s with sup := { s.sup with reports := rest } }, .done, reportBytes r)
  | [] => (s, .done, reportBytes ⟨Config.emptyStamp s.time.osc, .none, 0, 0⟩)

/-- READ_REPORT (R183). -/
def execReadReport (s : State) : Answer := .next (answered 30 readReport s)

/-! ## The response transaction (R181) -/

/-- R181: the bytes of a response: sequence count, command number, result, length of the return data, return data.
The width of the length, two bytes, is entry 7's, and the code of a response that holds no result is free. -/
def Response.bytes (r : Response) : List Byte :=
  byte1 r.sequence ++ byte1 r.number ++ byte1 ((r.result.map resultCode).getD Config.noResultCode)
    ++ byte2 r.data.length ++ r.data

/-- R181: what the part shifts out in a response transaction. -/
def State.responseBytes (s : State) : List Byte := s.sup.response.bytes

end Sys2Proof.Machine
end

