-- ==== Sys2Proof/Machine/Claims.lean ====
section
/-! DEFINITION. The commands and events of the planner and of the claim unit (chapters 3 and 5), each with its
own meaning. A count or a stamp not yet reached leaves the state as it is (entry 2). -/

namespace Sys2Proof.Machine

/-! ## Host commands (R95, R97, R101, R104) -/

/-- R95: the bay's own holds and claims that keep a maintenance hold off a port. -/
def State.maintBarred (s : State) (p : Nat) : Bool :=
  (s.cfg.curtainPorts p).any (fun q => s.ownHeld q || s.claiming.contains q)

/-- R95. -/
def maintHold (p : Nat) (s : State) : Decision :=
  if 31 < p then deny .badArgument s
  else if s.seq.state = .configFault then deny .wrongState s
  else if s.start.step ≠ .done then deny .busy s
  else if s.hall.maint.any (fun e => decide (e.port = p)) then deny .wrongState s
  else if s.maintBarred p then deny .wrongState s
  else if 4 ≤ s.hall.maint.length then deny .full s
  else
    let e : MaintEntry :=
      { port := p, start := s.stamp, state := .claiming, claim := Claim.fresh, releasing := false }
    grant (maintClaim e { s with hall := { s.hall with maint := s.hall.maint ++ [e] } })

/-- MAINT_HOLD (R95). -/
def execMaintHold (p : Nat) (s : State) : Answer := .next (answered 16 (maintHold p) s)

/-- R181: the commands that offer frames are refused with BUSY before the PRESENCE of step 5. -/
def afterRollCall (f : State → Decision) (s : State) : Decision :=
  if s.mayOffer then f s else deny .busy s

/-- The entry leaves the own maintenance list. -/
def dropMaint (p : Nat) (s : State) : State :=
  { s with hall := { s.hall with maint := s.hall.maint.filter (fun e => decide (e.port ≠ p)) } }

/-- R97. -/
def maintRelease (p : Nat) : State → Decision :=
  afterRollCall fun s =>
    if 31 < p then deny .badArgument s
    else
      match s.hall.maint.find? (fun e => decide (e.port = p)) with
      | none => deny .notFound s
      | some e =>
        match e.state with
        | .held => grant (offerRelease p s.bay (s.setMaint p (fun x => { x with releasing := true })))
        | .claiming => grant (dropMaint p (abandonClaim (.maint p) none s))
        | .waiting => grant (dropMaint p s)

/-- MAINT_RELEASE (R97). -/
def execMaintRelease (p : Nat) (s : State) : Answer := .next (answered 17 (maintRelease p) s)

/-- R101. -/
def forceRelease (p : Nat) : State → Decision :=
  afterRollCall fun s =>
    if 31 < p then deny .badArgument s
    else
      let m := (s.portRec p).mark
      match m.owner with
      | none => deny .notFound s
      | some o =>
        if !m.taken then deny .notFound s
        else if o = s.bay then deny .wrongState s
        else if (s.hall.peers.get o).presence ≠ .silent then deny .notStale s
        else grant (offerRelease p o s)

/-- FORCE_RELEASE (R101). -/
def execForceRelease (p : Nat) (s : State) : Answer := .next (answered 18 (forceRelease p) s)

/-- R104. -/
def clearSuspect (p : Nat) : State → Decision :=
  afterRollCall fun s =>
    if 31 < p then deny .badArgument s else grant (offerKept (.clear p) false s)

/-- CLEAR_SUSPECT (R104). -/
def execClearSuspect (p : Nat) (s : State) : Answer := .next (answered 19 (clearSuspect p) s)

/-! ## The planner's instants (R47 to R53) -/

/-- R47, R48: the claim time of the next record is reached and not deferred. -/
def State.claimDue (s : State) : Bool :=
  s.canPlan && s.plan.next.any (fun a =>
    !a.claim.begun && decide (a.claimTime ≤ s.stamp) && !a.deferred)

/-- CLAIM_TIME (R48). -/
def execClaimTime (s : State) : Answer :=
  .next (if s.claimDue then
      beginClaim .next (s.setClaim .next (fun c => { c with begun := true }))
    else s)

/-- R53, R133: the next record is offered at its changeover start; beside a current assignment a chained one, at that
assignment's end. -/
def State.startDue (s : State) : Bool :=
  s.plan.next.any (fun a => decide (a.changeoverStart ≤ s.stamp) && (a.chained || s.seq.current.isNone)) &&
    !s.seq.state.takesNone && s.seq.current.all (fun c => c.segEnd.any (fun e => decide (e ≤ s.stamp)))

/-- CHANGEOVER_START (R53, R133). -/
def execChangeoverStart (s : State) : Answer :=
  .next (if s.startDue then
      (match s.seq.current, s.plan.next with
       | none, some a => takeover true a s
       | _, _ => currentEnds true s)
    else s)

/-- R134: the current segment's end is reached. -/
def State.endDue (s : State) : Bool :=
  s.seq.current.any (fun c => c.segEnd.any (fun e => decide (e ≤ s.stamp)))

/-- SEGMENT_END (R134, R133, R135, R138). -/
def execSegmentEnd (s : State) : Answer := .next (if s.endDue then currentEnds true s else s)

/-- R51: the current assignment is given up. -/
def State.currentGivenUp (s : State) : Bool :=
  s.seq.current.any (fun c =>
    !c.isManual && decide (c.giveUp ≤ s.stamp ∧ c.claim.state ≠ .won))

/-- R51, R53: the next record is given up; in LOCKED and MATRIX_FAULT also with its port settled. -/
def State.nextGivenUp (s : State) : Bool :=
  s.plan.next.any (fun a => decide (a.giveUp ≤ s.stamp ∧
    (a.claim.state ≠ .won ∨ s.seq.state = .locked ∨ s.seq.state = .matrixFault)))

/-- GIVE_UP_POINT (R51). -/
def execGiveUpPoint (s : State) : Answer :=
  .next (match s.seq.current, s.plan.next with
    | some c, n =>
      if s.currentGivenUp then
        clearCurrent true (c.segEnd.getD s.stamp) (fileMissed c.toAssignment s)
      else
        match n with
        | some a => if s.nextGivenUp then giveUpNext a s else s
        | none => s
    | none, some a => if s.nextGivenUp then giveUpNext a s else s
    | none, none => s)

/-- The schedule claims that pass a test. -/
def State.scheduleHolders (s : State) (f : Claim → Bool) : List Holder :=
  [Holder.current, .next].filter (fun h => (s.claimOf h).any f)

/-- An elapsed count is reached. -/
def State.reached (s : State) (t : Option Nat) : Bool := t.any (fun c => decide (c ≤ s.time.elapsed))

/-- The claims that are due are acted on in turn, and the sequencer's work follows; with none due nothing
happens. -/
def forDue (due : List Holder) (f : Holder → State → State) (s : State) : State :=
  if due.isEmpty then s else work (due.foldl (fun acc h => f h acc) s)

/-- The claims whose NO_PORT retry is due. -/
def State.retriesDue (s : State) : List Holder :=
  s.scheduleHolders (fun c => decide (c.state = .noPort) && s.reached c.retryAt)

/-- The claims whose repeated scan is due. -/
def State.rescansDue (s : State) : List Holder :=
  s.scheduleHolders (fun c => decide (c.state = .unclaimed) && s.reached c.rescanAt)

/-- NO_PORT_RETRY (R49): the scan restarts from the top. -/
def execNoPortRetry (s : State) : Answer := .next (forDue s.retriesDue restartScan s)

/-- DROPPED_RESCAN (R49): the scan repeated 1 s after a DROPPED outcome. -/
def execDroppedRescan (s : State) : Answer := .next (forDue s.rescansDue scanAgain s)

/-! ## The claim unit's counts and timers -/

/-- MAINT_CLAIM_RETRY (R96): the test of a CLAIMING entry is made again after a DROPPED outcome. -/
def execMaintClaimRetry (s : State) : Answer :=
  .next ((s.hall.maint.filter (fun e =>
      decide (e.state = .claiming ∧ e.claim.state = .unclaimed) && s.reached e.claim.rescanAt)).foldl
    (fun acc e => maintClaim e acc) s)

/-- R175: the INTENT of a manual claim is offered again while its port stays available. Otherwise the claim ends as
for LOST, with the cause that R88 would find, or DROPPED (entry 33). -/
def reofferManual (m : ManualClaim) (s : State) : State :=
  if s.available m.port m.cls m.start s.manual.freq then offerIntent .manual m.port m.cls m.start s
  else
    let x := (s.windowLoss m.port m.cls m.start).getD (5, 255)
    loseClaim .manual m.port x.1 x.2 s

/-- MANUAL_INTENT_REOFFER (R175). -/
def execManualIntentReoffer (s : State) : Answer :=
  .next (match s.hall.manualClaim with
    | some m =>
      if m.claim.state = .unclaimed ∧ s.reached m.claim.rescanAt then reofferManual m s else s
    | none => s)

/-- The end of a claim's window. -/
def State.windowEnd (s : State) (h : Holder) : Nat := ((s.claimOf h).bind Claim.window).getD 0

/-- R89: of the claims of a port whose windows run, the one whose window ends first. -/
def State.firstWindow (s : State) (p : Nat) : Option Holder :=
  match s.windowsFor p with
  | [] => none
  | h :: rest => some (rest.foldl (fun best x => if s.windowEnd x < s.windowEnd best then x else best) h)

/-- OBJECTION_WINDOW_EXPIRY (R89), for the claim on the port. -/
def execObjectionWindowExpiry (port : Nat) (s : State) : Answer :=
  .next (match s.firstWindow port with
    | some h => windowEnds h (s.reach (s.windowEnd h))
    | none => s)

/-- INTENT_LAPSE (R86): marks whose lapse count is reached become FREE, and waiting entries test (R96). -/
def execIntentLapse (s : State) : Answer := .next (retestMaint s (lapseIntents s))

/-- PEER_SILENCE (R98). -/
def execPeerSilence (s : State) : Answer := .next (silencePeers s)

/-- R99: the count has risen by 2 since the last PRESENCE offer. -/
def State.presenceDue (s : State) : Bool :=
  s.mayOffer && decide (s.hall.lastPresence + 2 ≤ s.time.elapsed)

/-- PRESENCE_INTERVAL (R99). -/
def execPresenceInterval (s : State) : Answer :=
  .next (if s.presenceDue then offerPresence false false s else s)

/-- R106: the conflict set has stood for 10 s. -/
def State.conflictDue (s : State) : Bool :=
  s.conflictPause && decide (s.hall.conflictSince + 10 ≤ s.time.elapsed)

/-- CONFLICT_TIMEOUT (R106): a lockout with cause CONFLICT, and the set is emptied. -/
def execConflictTimeout (s : State) : Answer :=
  .next (if s.conflictDue then
      let s1 := declareLockout .conflict s
      { s1 with hall := { s1.hall with conflicts := [] } }
    else s)

end Sys2Proof.Machine
end

