-- ==== Sys2Proof/Machine/HallBus.lean ====
section
/-! DEFINITION. The events of the hall bus link and the frames taken off it (chapters 4 and 5), each with its
own meaning. -/

namespace Sys2Proof.Machine

/-! ## The transmit queue (R69, R71) -/

/-- R87: an INTENT dropped by the link is a DROPPED outcome of the claim it was sent for, which is QUEUED for its
port with its class and its start stamp. -/
def intentDropped (t : Option (Nat × Nat × Nat)) (s : State) : State :=
  match t with
  | none => s
  | some x =>
    match s.holders.find? (fun h => decide (s.claimTuple h = some x) &&
        (s.claimOf h).any (fun c => decide (c.state = .queued))) with
    | some h => claimDropped h x.1 s
    | none => s

/-- R93, R126: the kept port of a claim whose refreshed HOLD is not offered again is lost without a report, and the
sequencer's work follows. A manual order for such a port stands in NONE (DESIGN CHOICE, entry 65). -/
def refreshLost (before : State) (s : State) : State :=
  let gone := (before.hall.refused.filter (fun r => r.refresh && decide (r.due ≤ before.time.elapsed) &&
    !before.ownTaken ((framePort r.frame).getD 32))).filterMap (fun r => framePort r.frame)
  if gone.isEmpty then s
  else
    work ([Holder.current, .next].foldl
      (fun acc h =>
        match acc.claimTuple h, acc.claimOf h with
        | some t, some c =>
          if gone.contains t.1 && c.refreshAsked && decide (c.state = .unclaimed) then lostScan h t.1 acc
          else acc
        | _, _ => acc) s)

/-- REFUSED_FRAME_REOFFER (R69). -/
def execRefusedFrameReoffer (s : State) : Answer := .next (refreshLost s (reofferRefused s))

/-- PARKED_ENTRY_READY (R69). -/
def execParkedEntryReady (s : State) : Answer := .next (unpark s)

/-- BLOCKED_TIMER_EXPIRY (R71): one spoil of the oldest entry, and the timer starts again. BUS_FAULT
goes before the CLAIM_LOST of a dropped INTENT (DEDUCED, entry 19). -/
def execBlockedTimerExpiry (s : State) : Answer :=
  match s.link.blocked with
  | none => .next s
  | some t =>
    let r := spoilHead (s.reach t)
    let s1 : State := { r.1 with link := r.1.link.restartTimer r.1.time.osc }
    .next (intentDropped r.2 s1)

/-! ## Attempts (R60, R61, R65) -/

/-- LINE_IDLE (R60). -/
def execLineIdle (s : State) : Answer := .next (lineGoesIdle s)

/-- ATTEMPT_SPOILED (R65, R67). BUS_FAULT goes before the CLAIM_LOST of a dropped INTENT (DEDUCED, entry 19). -/
def execAttemptSpoiled (inTailGuard : Bool) (s : State) : Answer :=
  if s.link.engine.attempting then
    let r := attemptEndsSpoiled inTailGuard s
    .next (intentDropped r.2 r.1)
  else .next s

/-- R63, R64: what a station that is not sending does with a frame that no station delivers: a fault before the
tail guard starts its spoil run, and any other ends with the tail guard, after which the engine is shown IDLE
(DESIGN CHOICE, entry 51). -/
def receiveSpoiled (bits : List Bool) (s : State) : State :=
  let s1 := becomeReceiver s
  let breaksOff := decide (receiveBits bits = .breakOff)
  s1.setLink (fun l => { l with engine := if breaksOff then .spoiling else .idle, lineIdle := false })

/-- R63, R64: a station reads the bits of a frame from the header's start bit on, and whether the tail guard is
dominant. A frame without a fault is taken when the tail guard is recessive, and is discarded otherwise. -/
def hearBits (bits : List Bool) (guardDominant : Bool) (s : State) : State :=
  match receiveBits bits, guardDominant with
  | .sound b f, false => takeFrame b f s
  | _, _ => receiveSpoiled bits s

/-- FRAME_SPOILED (R59, R62 to R64). A link in SYNC takes no part (R60). -/
def execFrameSpoiled (bits : List Bool) (guardDominant : Bool) (s : State) : Answer :=
  .next (if s.link.engine = .sync then s else hearBits bits guardDominant s)

/-- CONTENTION_WITHDRAWAL (R61). -/
def execContentionWithdrawal (s : State) : Answer :=
  .next (if s.link.engine.attempting then contentionLost s else s)

/-! ## Frames taken (R66, R79 to R85) -/

/-- INTENT_RECEIVED (R80). -/
def execIntentReceived (sender port cls start : Nat) (s : State) : Answer :=
  .next (takeFrame sender (.intent port cls start) s)

/-- OBJECT_RECEIVED (R81). -/
def execObjectReceived (sender port held reason release : Nat) (s : State) : Answer :=
  .next (takeFrame sender (.object port held reason release) s)

/-- HOLD_RECEIVED (R82, R90, R93). -/
def execHoldReceived (sender port cls release : Nat) (s : State) : Answer :=
  .next (takeFrame sender (.hold port cls release) s)

/-- RELEASE_RECEIVED (R83, R102). -/
def execReleaseReceived (sender port forBay : Nat) (s : State) : Answer :=
  .next (takeFrame sender (.release port forBay) s)

/-- SUSPECT_RECEIVED (R84). -/
def execSuspectReceived (sender port cause : Nat) (s : State) : Answer :=
  .next (takeFrame sender (.suspect port cause) s)

/-- CLEAR_RECEIVED (R84). -/
def execClearReceived (sender port : Nat) (s : State) : Answer :=
  .next (takeFrame sender (.clear port) s)

/-- PRESENCE_RECEIVED (R85). -/
def execPresenceReceived (sender : Nat) (body : PresenceBody) (s : State) : Answer :=
  .next (takeFrame sender (.presence body) s)

end Sys2Proof.Machine
end

