-- ==== Sys2Proof/Machine/Changeover.lean ====
section
/-! DEFINITION. The events of the row driver and of the changeover sequencer (chapters 6 and 7), each with its
own meaning. A timer that is not running leaves the state as it is; one that runs brings its instant with
it (entry 2). -/

namespace Sys2Proof.Machine

/-- Rewrites the inputs. -/
def State.setInputs (f : Inputs → Inputs) (s : State) : State := { s with inputs := f s.inputs }

/-! ## The row (R108 to R116) -/

/-- CONTACT_READING_CHANGE (R108): two consecutive samples have agreed on what the contacts read (entry 43). -/
def execContactReadingChange (port : Fin 32) (openMade closedMade : Bool) (s : State) : Answer :=
  let r := readingOf openMade closedMade
  let s1 := s.setInputs (fun i => { i with contacts := i.contacts.put port.val (openMade, closedMade) })
  let s2 := s1.setPoint port.val (fun x => { x with lastSample := some r })
  .next (afterRow (contactChange port.val r s2))

/-- R108: both contacts of every crosspoint are sampled together, every 5 ms; a reading changes where two
consecutive samples agree on the new value. -/
def sampleContacts (s : State) : State :=
  s.agreedChanges.foldl (fun acc p => afterRow (contactChange p (s.inputs.contactReading p) acc)) (keepSamples s)

/-- TRAVEL_TIMER_EXPIRY (R112, R114, R115). -/
def execTravelTimerExpiry (s : State) : Answer :=
  match s.row.travelTimer with
  | none => .next s
  | some t => .next (afterRow (travelExpired (s.reach t)))

/-- SETTLE_TIMER_EXPIRY (R113). -/
def execSettleTimerExpiry (s : State) : Answer :=
  match s.row.settleTimer with
  | none => .next s
  | some t => .next (afterRow (settleExpired (s.reach t)))

/-- R109. -/
def clearDefect (p : Nat) (s : State) : Decision :=
  if 31 < p then deny .badArgument s
  else if s.row.motion.subject = some p ∨ s.row.recoveryOf = some p then deny .busy s
  else grant (s.setPoint p (fun x => { x with defect := none }))

/-- CLEAR_DEFECT (R109). -/
def execClearDefect (p : Nat) (s : State) : Answer := .next (answered 22 (clearDefect p) s)

/-! ## Mute and guard (R124, R125) -/

/-- R124: one step of MUTING; the fifth removes the permit and enters GUARD. -/
def muteStep (s : State) : State :=
  let s1 := refreshDemand (s.setSeq (fun q => { q with muteStep := q.muteStep + 1 }))
  if 5 ≤ s1.seq.muteStep then enterGuard s1 else s1

/-- MUTE_STEP_TIMER (R124). -/
def execMuteStepTimer (s : State) : Answer :=
  .next (if s.seq.state = .muting then muteStep (s.reach s.muteDue) else s)

/-- GUARD_TIMER_EXPIRY (R125, R126). -/
def execGuardTimerExpiry (s : State) : Answer :=
  match s.seq.guardTimer with
  | none => .next s
  | some t => .next (if s.seq.state = .guarding then enterReposition (s.reach t) else s)

/-- CLEARANCE_WAIT_EXPIRY (R123): clearance is given again, and the row driver tests its conditions. -/
def execClearanceWaitExpiry (s : State) : Answer :=
  match s.seq.clearWait with
  | none => .next s
  | some t =>
    let s1 := (s.reach t).setSeq (fun q => { q with clearance := true, clearWait := none })
    .next (afterRow (tryStart s1))

/-! ## RF-present (R123, R154) -/

/-- MUTE_FAIL (R123, R158): the watch's limit ends with RF-present still active. T_rfoff is that of the configuration
in use when the limit ends, also for the watch of a reset that the load ends during (DESIGN CHOICE, entry 89). -/
def execMuteFail (s : State) : Answer :=
  match s.seq.watch with
  | none => .next s
  | some t =>
    let s1 := (s.reach (t + s.cfg.tRfoff)).setSeq (fun q => { q with watch := none })
    .next (if s.inputs.rfPresent then declareLockout .muteFail s1 else s1)

/-- R123: a fall with the permit off is the RF-off instant; GUARD starts its timer, and after a rise the
clearance waits T_guard. -/
def rfFell (s : State) : State :=
  let now := s.time.osc
  let till := some (now + s.cfg.tGuard)
  let s1 := s.setSeq (fun q => { q with watch := none, rfOff := some now })
  if s.seq.state = .guarding then s1.setSeq (fun q => { q with guardTimer := till })
  else if s.seq.watch.isSome && s.seq.watchOnRise then s1.setSeq (fun q => { q with clearWait := till })
  else s1

/-- R123: a watch that runs on under a permit asserted again stops at the fall. -/
def stopWatch (s : State) : State :=
  if s.seq.watch.isSome then
    let now := s.time.osc
    s.setSeq (fun q => { q with watch := none, rfOff := some now })
  else s

/-- RF_PRESENT_FALL (R123, R154). -/
def execRfPresentFall (s : State) : Answer :=
  if !s.inputs.rfPresent then .next s
  else
    let s1 := s.setInputs (fun i => { i with rfPresent := false })
    .next (if s1.seq.permit then
        (if s1.prot.txDropArmed then trip .txDrop 0 (stopWatch s1) else stopWatch s1)
      else rfFell s1)

/-- RF_PRESENT_RISE (R123): with the permit off clearance is withdrawn and the watch starts afresh. -/
def execRfPresentRise (s : State) : Answer :=
  if s.inputs.rfPresent then .next s
  else
    let s1 := s.setInputs (fun i => { i with rfPresent := true })
    .next (if s1.seq.permit then s1
      else startWatch true (s1.setSeq (fun q =>
        { q with clearance := false, clearWait := none, guardTimer := none })))

/-! ## Tune (R128, R129, R172, R176) -/

/-- R128, R172: tune done is counted while the tune-request line is raised. -/
def countTune (s : State) : State :=
  let s1 := s.setSeq (fun q => { q with tuneSub := .tuned, tuneRequest := false, tuneTimer := none })
  work { s1 with manual := { s1.manual with tuned := s1.seq.tuneFreq } }

/-- TUNE_DONE (R128): the tune-done input goes from inactive to active. -/
def execTuneDone (s : State) : Answer :=
  if s.inputs.tuneDone then .next s
  else
    let s1 := s.setInputs (fun i => { i with tuneDone := true })
    .next (if s1.seq.tuneRequest && decide (s1.seq.tuneSub = .tuning) then countTune s1 else s1)

/-- The frequency last sent to the transmitter. -/
def State.sentFreq (s : State) : Nat := s.seq.tuneFreq.getD 0

/-- TUNE_FAIL (section 11.3): flag 0 second expiry, 1 loss of tune done. With no current assignment its subject is
254 (DESIGN CHOICE, entry 55). -/
def fileTuneFail (flag freq : Nat) (s : State) : State :=
  file .tuneFail ((s.seq.current.map (fun c => sourceCode c.source)).getD 254) (flag * 65536 + freq) s

/-- R128, R176: the second expiry. -/
def tuneFailed (s : State) : State :=
  let s1 := fileTuneFail 0 s.sentFreq
    (s.setSeq (fun q => { q with tuneSub := .failed, tuneRequest := false, tuneTimer := none }))
  match s1.seq.current with
  | none => s1
  | some c =>
    if c.isManual then
      work { s1 with manual := { s1.manual with tuned := none, rfOn := false } }
    else clearCurrent true (c.segEnd.getD s1.stamp) s1

/-- TUNE_TIMER_EXPIRY (R128). In LOCKED no retry is sent (R138). With no current assignment, after LOCKED has been
left, a first expiry sends one and a second files TUNE_FAIL as at any other (DESIGN CHOICE, entry 88). -/
def execTuneTimerExpiry (s : State) : Answer :=
  match s.seq.tuneTimer with
  | none => .next s
  | some t =>
    let s1 := s.reach t
    .next (if 2 ≤ s1.seq.tuneAttempt then tuneFailed s1
      else if s1.seq.state = .locked then stopTune s1
      else sendTune s1.sentFreq 2 s1)

/-- R122, R129: a loss of tune, by the state. In MUTING the permit is removed at once and the path goes on. -/
def tuneLost (s : State) : State :=
  let s1 := s.setSeq (fun q => { q with tuneSub := .idle })
  match s1.seq.state with
  | .reposition => work (requestTune s1)
  | .muting => removePermit s1
  | .ramping => enterGuard (fileTuneFail 1 s.sentFreq s1)
  | .onAir => enterGuard (fileTuneFail 1 s.sentFreq s1)
  | _ => s1

/-- TUNE_LOSS (R122, R129, R172): the tune-done input falls, while TUNED or under the RF permit. -/
def execTuneLoss (s : State) : Answer :=
  if !s.inputs.tuneDone then .next s
  else
    let s1 := s.setInputs (fun i => { i with tuneDone := false })
    let s2 : State := { s1 with manual := { s1.manual with tuned := none } }
    .next (if s2.seq.tuneSub = .tuned ∨ s2.seq.permit = true then tuneLost s2 else s2)

/-! ## Ramp and restart hold (R131, R136, R154) -/

/-- R154: the TX-drop watch is armed at the first step; an inactive RF-present is a TX drop at once. -/
def armTxDrop (s : State) : State :=
  if s.prot.txDropArmed then s
  else
    let s1 : State := { s with prot := { s.prot with txDropArmed := true } }
    if s1.inputs.rfPresent then s1 else trip .txDrop 0 s1

/-- R131, R132: one expiry of the step timer. Where the first step reaches the target too, a TX drop of R154 is taken
before ON_AIR (DESIGN CHOICE, entry 99). -/
def rampStep (s : State) : State :=
  let again := some (s.after s.cfg.tStep)
  let s1 := s.setSeq (fun q => { q with stepCount := q.stepCount + 1, stepTimer := again })
  let s2 := armTxDrop (refreshDemand s1)
  if s2.seq.permit then reachTarget s2 else s2

/-- RAMP_STEP (R131, R154). -/
def execRampStep (s : State) : Answer :=
  match s.seq.stepTimer with
  | none => .next s
  | some t => .next (rampStep (s.reach t))

/-- RESTART_HOLD_END (R136, R130). -/
def execRestartHoldEnd (s : State) : Answer :=
  .next (if s.seq.state = .restartHold ∧ s.reached s.seq.holdEnd = true then
      (if s.rfInhibit then enterPaused s else work (resume s))
    else s)

end Sys2Proof.Machine
end

