-- ==== Sys2Proof/Machine/ProtectionUnit.lean ====
section
/-! DEFINITION. The commands and events of the protection unit and of the fault-line unit (chapters 8 and 9),
each with its own meaning. -/

namespace Sys2Proof.Machine

/-- Rewrites the protection unit and works out the demand again (R151). -/
def State.setProt (f : Protection → Protection) (s : State) : State :=
  refreshDemand { s with prot := f s.prot }

/-! ## The coupler sample (R145 to R149, R160) -/

/-- R160: the proof run at a sample. -/
def proofSample (x : Sample) (s : State) : State :=
  match s.seq.current.bind (fun c => c.port) with
  | none => s
  | some p =>
    if s.hall.suspects.any (fun q => decide (q.1 = p)) then
      let start := some (s.prot.proof.getD (p, s.time.elapsed))
      { s with prot := { s.prot with proof := if s.prot.target ≤ 2 * x.pf then start else none } }
    else s

/-- R147: the trip pair test. -/
def pairTest (x : Sample) (s : State) : State :=
  if !x.counted then s
  else if x.s < s.cfg.sT then { s with prot := { s.prot with pairFlag := false } }
  else if s.prot.pairFlag then trip .vswr x.s s
  else { s with prot := { s.prot with pairFlag := true } }

/-- R145: one sample while the permit is asserted; its FOLDBACK_ON goes before its TRIP (DESIGN CHOICE, entry 19). -/
def takeSample (vf vr : BitVec 12) (s : State) : State :=
  let x := sampleOf s.cfg vf.toNat vr.toNat
  let s1 : State := { s with prot := { s.prot with last := some x } }
  pairTest x (proofSample x (refreshDemand (foldbackSample x s1)))

/-- COUPLER_SAMPLE (R145). -/
def execCouplerSample (vf vr : BitVec 12) (s : State) : Answer :=
  match s.prot.sampleDue with
  | none => .next s
  | some t =>
    if s.seq.permit then
      let s1 := s.reach t
      .next (takeSample vf vr { s1 with prot := { s1.prot with sampleDue := some (t + 10) } })
    else .next s

/-- RECOVERY_TIMER_EXPIRY (R150). -/
def execRecoveryTimerExpiry (s : State) : Answer :=
  match s.prot.recoveryTimer with
  | none => .next s
  | some t => .next (refreshDemand (recoveryStep (s.reach t)))

/-- CAP_TIMER_EXPIRY (R152). -/
def execCapTimerExpiry (s : State) : Answer :=
  match s.prot.capTimer with
  | none => .next s
  | some t => .next (refreshDemand (capStep (s.reach t)))

/-! ## Arc, ageing, proof, lockout (R153, R156, R159, R160) -/

/-- ARC (R153): the arc input goes active, and stays so or returns. On an input already active the command
is only the level it has afterwards. -/
def execArc (staysActive : Bool) (s : State) : Answer :=
  let s1 := s.setInputs (fun i => { i with arc := staysActive })
  .next (if s.inputs.arc then s1 else trip .arc 0 s1)

/-- TRIP_AGEING (R156): the list is frozen while a lockout is in force. -/
def execTripAgeing (s : State) : Answer :=
  .next (if s.prot.lockout.isSome then s else refreshDemand (ageTrips s))

/-- R160: the proof time has passed since the run's start. -/
def State.proofDue (s : State) : Bool :=
  s.prot.proof.any (fun r => decide (r.2 + s.cfg.proofTime ≤ s.time.elapsed))

/-- PROOF_RUN_COMPLETE (R160, R104). -/
def execProofRunComplete (s : State) : Answer :=
  .next (match s.prot.proof with
    | some r =>
      if s.proofDue then offerKept (.clear r.1) false { s with prot := { s.prot with proof := none } }
      else s
    | none => s)

/-- R159: what is kept of a lockout record as the last lockout. -/
def Lockout.kept (l : Lockout) : LastLockout := { cause := l.cause, stamp := l.stamp }

/-- R159: what the unit does at CLEAR_LOCKOUT. -/
def Protection.cleared (p : Protection) : Protection :=
  { p with lockout := none, lastLockout := p.lockout.map Lockout.kept, trips := [], capState := .full,
           cap := p.target, capTimer := none, pairFlag := false }

/-- R159. -/
def clearLockout (s : State) : Decision :=
  if s.prot.lockout.isNone then deny .wrongState s
  else if s.muteInhibit || s.lockoutAction then deny .stillActive s
  else if s.inputs.rfPresent && !s.seq.permit then deny .stillActive s
  else
    let s1 := s.setProt Protection.cleared
    grant (if s1.seq.state = .locked then leaveFault s1 else s1)

/-- CLEAR_LOCKOUT (R159). -/
def execClearLockout (s : State) : Answer := .next (answered 20 clearLockout s)

/-! ## Fault lines (R164 to R169) -/

/-- R169. -/
def clearFaultLine (i : Nat) (s : State) : Decision :=
  if 3 < i then deny .badArgument s
  else
    let l := s.faultLine i
    if !l.latched then grant s
    else
      match (s.cfg.lines.get i).clearMode with
      | .auto => deny .stillActive s
      | .manualLevel => if l.filtered = .active then deny .stillActive s else grant (clearLine i 2 s)
      | .manualRearm =>
        grant (clearLine i 2
          (s.setLine i (fun x => { x with waitInactive := decide (x.filtered = .active) })))

/-- CLEAR_FAULT_LINE (R169). -/
def execClearFaultLine (i : Nat) (s : State) : Answer := .next (answered 21 (clearFaultLine i) s)

/-- FAULT_LINE_LEVEL_CHANGE (R164): two consecutive samples have agreed on the pin's level. -/
def execFaultLineLevelChange (line : Fin 4) (pinHigh : Bool) (s : State) : Answer :=
  let s1 := s.setInputs (fun i => { i with linePins := i.linePins.put line.val pinHigh })
  let s2 := s1.setLine line.val (fun x => { x with lastPin := some pinHigh })
  .next (if s.start.step = .load then s2 else agreeingSamples line.val pinHigh s2)

end Sys2Proof.Machine
end

