-- ==== Sys2Proof/Machine/ManualControl.lean ====
section
/-! DEFINITION. The commands of manual control (chapter 10), each with its own meaning. -/

namespace Sys2Proof.Machine

/-- Rewrites the manual settings. -/
def State.setManual (f : Manual → Manual) (s : State) : State := { s with manual := f s.manual }

/-! ## MANUAL_ENTER (R173) -/

/-- R173, step 4: the settings of a bay without a current assignment. -/
def fillManual (port : Option Nat) (s : State) : State :=
  s.setManual (fun m => { Manual.initial with flag := m.flag, port := port })

/-- R173, step 3: ENTRY_ENDED for an assignment that reached ON_AIR, ENTRY_MISSED for another. -/
def fileEntered (c : Current) (s : State) : State :=
  match c.onAirCount with
  | some n => file .entryEnded (sourceCode c.source) (elapsedCount (s.time.elapsed - n)) s
  | none => fileMissed c.toAssignment s

/-- R173, step 3: a settled current assignment becomes the manual assignment. With no segment end the floor is the
present stamp (R41). -/
def becomeManual (c : Current) (s : State) : State :=
  let tuned := if s.seq.tuneSub = .tuned then c.freq else none
  let s1 := (s.setFloor s.stamp).setManual (fun m =>
    { flag := m.flag, port := c.port, cls := c.cls, freq := c.freq, power := some c.power,
      programme := c.programme, rfOn := true, tuned := tuned })
  let s2 := s1.setCurrent (fun x => { s1.manualAssignment with
    onAirStamp := x.onAirStamp, onAirCount := x.onAirCount })
  let s3 :=
    match c.port with
    | some p => refreshHold p c.cls none s2
    | none => s2
  fileEntered c s3

/-- R173, step 4: HELD_IDLE, LOCKED and MATRIX_FAULT give the port that is held and closed, of several the lowest
(DESIGN CHOICE, entry 63). On an end path in MUTING, GUARD or REPOSITION the port is none (DESIGN CHOICE,
entry 73). -/
def enterWithout (s : State) : State :=
  let keeps := match s.seq.state with
    | .heldIdle => true
    | .locked => true
    | .matrixFault => true
    | _ => false
  match (if keeps then s.heldPort else none) with
  | some p =>
    let m := (s.portRec p).mark
    let s1 := fillManual (some p) s
    if m.release.isSome then refreshHold p m.cls none s1 else s1
  | none => fillManual none s

/-- R173: the steps of MANUAL_ENTER; in the interval of R180 the manual assignment stays, with no end (R41) and release
stamp none, restated by the discard of a record that kept its port (entry 82). Its settings stay there, the RF order
among them (DESIGN CHOICE, entry 100). -/
def enterManual (s : State) : State :=
  let s1 := discardNext (s.setManual (fun m => { m with flag := true }))
  match s1.seq.current with
  | none => enterWithout s1
  | some c =>
    if c.isManual then (s1.setManual (fun m => { m with atNext := false })).setFloor s1.stamp
    else if s1.currentSettled then becomeManual c s1
    else fillManual none (clearCurrent true (c.segEnd.getD s1.stamp) s1)

/-- R173. -/
def manualEnter (s : State) : Decision :=
  if s.manual.flag ∨ s.seq.state = .configFault then deny .wrongState s else grant (enterManual s)

/-- MANUAL_ENTER (R173). -/
def execManualEnter (s : State) : Answer := .next (answered 23 manualEnter s)

/-! ## Orders (R174 to R177) -/

/-- R174: a manual claim stands in QUEUED or IN_WINDOW. -/
def State.manualClaiming (s : State) : Bool :=
  s.hall.manualClaim.any (fun m => decide (m.claim.state = .queued ∨ m.claim.state = .inWindow))

/-- R174: the tests of an order after its argument's range. -/
def ordered (s : State) (f : State → Decision) : Decision :=
  if !s.manual.flag then deny .wrongState s
  else if s.seq.state.inFlight || s.manualClaiming then deny .busy s
  else if s.seq.state.takesNone then deny .wrongState s
  else f s

/-- The manual assignment, if there is one, follows the settings. -/
def followSettings (s : State) : State := if s.seq.current.isSome then shapeManual s else s

/-- R175: the claim of a manual port. A claim that waits to be offered again after DROPPED gives way to a new one, and
goes on beside a command for the port held already; an order for a held port, whose refreshed HOLD is on its way,
gives way to a new one too (DESIGN CHOICE, entry 65). -/
def claimManual (p cls : Nat) (s : State) : State :=
  let set := followSettings (s.setManual (fun m => { m with cls := cls }))
  let m : ManualClaim := { port := p, cls := cls, start := s.stamp, claim := Claim.fresh }
  if set.ownHeld p then
    (if set.manual.port = some p then refreshHold p cls none set
     else
      let asked : ManualClaim := { m with claim := { Claim.fresh with refreshAsked := true } }
      askHold p cls none { set with hall := { set.hall with manualClaim := some asked } })
  else offerIntent .manual p cls s.stamp { set with hall := { set.hall with manualClaim := some m } }

/-- R175. -/
def manualPort (p cls : Nat) (s : State) : Decision :=
  if 31 < p ∨ cls < 1 ∨ 3 < cls then deny .badArgument s
  else
    ordered s fun s =>
      if s.start.step ≠ .done then deny .busy s
      else if !s.available p cls s.stamp s.manual.freq then deny .wrongState s
      else grant (claimManual p cls s)

/-- MANUAL_PORT (R175). -/
def execManualPort (p cls : Nat) (s : State) : Answer := .next (answered 24 (manualPort p cls) s)

/-- R125, R143: GUARD, entered only once the start state has been taken. -/
def guardStarted (s : State) : State := if s.started then enterGuard s else s

/-- R176: what a new frequency setting starts. Before the start state is taken the sequencer goes on showing IDLE
(R143), and the path begins once it is (DESIGN CHOICE, entry 74). -/
def tuneOrder (f : Nat) (s : State) : State :=
  let s1 := followSettings (s.setManual (fun m => { m with freq := some f }))
  if s.manual.tuned = some f then s1
  else
    match s1.seq.state with
    | .onAir => enterMuting s.prot.demand s1
    | .idle => guardStarted (shapeManual s1)
    | .heldIdle => guardStarted (shapeManual s1)
    | _ => s1

/-- R176. -/
def manualTune (f : Nat) (s : State) : Decision :=
  if f < s.cfg.fLo ∨ s.cfg.fHi < f then deny .badArgument s
  else ordered s fun s => grant (tuneOrder f s)

/-- MANUAL_TUNE (R176). -/
def execManualTune (khz : Nat) (s : State) : Answer := .next (answered 25 (manualTune khz) s)

/-- R174: the power setting, followed by the assignment's target and ramp. -/
def powerOrder (pu : Nat) (s : State) : State :=
  let ramp := s.rampValue
  let s1 := followSettings (s.setManual (fun m => { m with power := some pu }))
  match s1.seq.state with
  | .ramping => rebase ramp s1
  | .onAir => rebase ramp s1
  | _ => s1

/-- R174. -/
def manualPower (pu : Nat) (s : State) : Decision :=
  if pu = 0 ∨ 6000 < pu then deny .badArgument s
  else if !s.manual.flag then deny .wrongState s
  else grant (powerOrder pu s)

/-- MANUAL_POWER (R174). -/
def execManualPower (pu : Nat) (s : State) : Answer := .next (answered 26 (manualPower pu) s)

/-- R177: the port setting is held, closed and settled, and tuned for the frequency setting. -/
def State.mayRadiate (s : State) : Bool :=
  s.manual.port.any (fun p =>
    s.ownHeld p && decide ((s.point p).reading = .atClosed) && (s.point p).settled) &&
    s.manual.freq.isSome && decide (s.manual.tuned = s.manual.freq)

/-- R177. -/
def rfOnOrder (s : State) : State :=
  let s1 := s.setManual (fun m => { m with rfOn := true })
  if !s.manual.rfOn && decide (s.seq.state = .heldIdle) then enterGuard (shapeManual s1) else s1

/-- R177. -/
def manualRfOn (s : State) : Decision :=
  ordered s fun s => if s.mayRadiate then grant (rfOnOrder s) else deny .wrongState s

/-- MANUAL_RF_ON (R177). -/
def execManualRfOn (s : State) : Answer := .next (answered 27 manualRfOn s)

/-- R177: the order OFF, by the state. -/
def rfOffOrder (s : State) : State :=
  let s1 := s.setManual (fun m => { m with rfOn := false })
  match s1.seq.state with
  | .ramping => enterMuting s.prot.demand s1
  | .onAir => enterMuting s.prot.demand s1
  | .restartHold => enterGuard s1
  | .paused => enterGuard s1
  | .reposition => work s1
  | _ => s1

/-- R177. -/
def manualRfOff (s : State) : Decision :=
  if s.manual.flag then grant (rfOffOrder s) else deny .wrongState s

/-- MANUAL_RF_OFF (R177). -/
def execManualRfOff (s : State) : Answer := .next (answered 27 manualRfOff s)

/-! ## MANUAL_EXIT (R179, R180) -/

/-- R179: the flag is cleared and a manual claim abandoned, one that waits in NONE too (DESIGN CHOICE, entry 65). -/
def dropManual (s : State) : State :=
  let s1 := abandonClaim .manual none (s.setManual (fun m => { m with flag := false }))
  { s1 with hall := { s1.hall with manualClaim := none } }

/-- R179: the manual assignment ends at this instant. The record of a segment that applies now is taken; with none the
end-of-segment path follows, and the planner plans beside no current assignment. -/
def exitCurrent (s : State) : State :=
  let s1 := planEnded s
  if s1.plan.next.any (fun a => decide (a.segStart ≤ s1.stamp)) then currentEnds true s1
  else currentEnds true (discardNext s1)

/-- R179: NOW; without a manual assignment the planner plans from the present stamp. -/
def exitNow (s : State) : State :=
  let s1 := dropManual s
  if s1.seq.current.isSome then resetManual (exitCurrent s1)
  else replanAll (resetManual (s1.setFloor s1.stamp))

/-- R180: the planner plans again while the manual assignment stays; without one, as NOW. -/
def exitAtNext (s : State) : State :=
  let s1 := dropManual s
  if s1.seq.current.isSome then replan ((s1.setManual (fun m => { m with atNext := true })).setFloor s1.stamp)
  else exitNow s

/-- R179: the row check in MATRIX_FAULT and what follows the exit. -/
def manualExit (f : State → State) (s : State) : Decision :=
  if s.seq.state = .matrixFault then
    match s.rowCheck with
    | .inconsistent _ _ => deny .wrongState s
    | .consistent p =>
      let s1 := leaveMatrixFault p s
      grant (if s.manual.flag then f s1 else s1)
  else if s.manual.flag then grant (f s)
  else deny .wrongState s

/-- MANUAL_EXIT_NOW (R179). -/
def execManualExitNow (s : State) : Answer := .next (answered 28 (manualExit exitNow) s)

/-- MANUAL_EXIT_AT_NEXT (R179, R180). -/
def execManualExitAtNext (s : State) : Answer := .next (answered 28 (manualExit exitAtNext) s)

end Sys2Proof.Machine
end

