-- ==== Sys2Proof/Machine/Port.lean ====
section
/-! DEFINITION. The supervisor port's own commands, the NVM, the resets and the start sequence (chapter 11),
each with its own meaning. -/

namespace Sys2Proof.Machine

/-- Rewrites the supervisor port. -/
def State.setSup (f : Supervisor → Supervisor) (s : State) : State := { s with sup := f s.sup }

/-! ## Flags, enables, lamps (R184, R185) -/

/-- CLEAR_FLAGS (R184). -/
def execClearFlags (flags : Byte) (s : State) : Answer :=
  .next (answered 31 (fun s =>
    grant (s.setSup (fun u => { u with sticky := clearSticky flags u.sticky }))) s)

/-- SET_ENABLES (R184). -/
def execSetEnables (enables : Byte) (s : State) : Answer :=
  .next (answered 32 (fun s => grant (s.setSup (fun u => { u with enables := enablesOf enables }))) s)

/-- R185. -/
def setLamp (lamp source blink invert : Nat) (s : State) : Decision :=
  match lampSourceOf source, blinkOf blink, invertOf invert with
  | some a, some b, some c =>
    if lamp ≤ 3 then grant (s.setSup (fun u => { u with lamps := u.lamps.put lamp ⟨a, b, c⟩ }))
    else deny .badArgument s
  | _, _, _ => deny .badArgument s

/-- SET_LAMP (R185). -/
def execSetLamp (lamp source blink invert : Nat) (s : State) : Answer :=
  .next (answered 33 (setLamp lamp source blink invert) s)

/-! ## Transactions (R181) -/

/-- UNKNOWN_COMMAND (R181): a number outside the table, or arguments that do not match it. -/
def execUnknownCommand (number : Nat) (_args : List Byte) (s : State) : Answer :=
  .next (decided number (deny .badArgument) s)

/-- TRANSACTION_CUT_SHORT (R181): no response and no count. -/
def execTransactionCutShort (s : State) : Answer := .next s

/-! ## NVM (R188) -/

/-- R188: a command passes to the NVM and is written into the response as PENDING. -/
def nvmStart (number address : Nat) (write : Option (List Byte)) (count : Nat) (s : State) : State :=
  if 4096 < address + count ∨ 4095 < address ∨ count = 0 ∨ 16 < count then
    respond number .badArgument [] s
  else if s.start.step = .load ∨ s.sup.nvmPending.isSome = true then respond number .busy [] s
  else
    let s1 := respond number .pending [] s
    let c : NvmCommand := { address := address, write := write, count := count,
                            sequence := s1.sup.sequence, deadline := s1.after 20 }
    s1.setSup (fun u => { u with nvmPending := some c })

/-- NVM_WRITE (R188). -/
def execNvmWrite (address : Nat) (data : List Byte) (s : State) : Answer :=
  .next (nvmStart 35 address (some data) data.length s)

/-- NVM_READ (R188). -/
def execNvmRead (address count : Nat) (s : State) : Answer := .next (nvmStart 36 address none count s)

/-- The number of a pending NVM command. -/
def NvmCommand.number (c : NvmCommand) : Nat := if c.write.isSome then 35 else 36

/-- R188: the command's own response, with its own sequence count, replaces the one held. -/
def nvmRespond (c : NvmCommand) (r : Result) (data : List Byte) (s : State) : State :=
  s.setSup (fun u => { u with nvmPending := none, response := ⟨c.sequence, c.number, some r, data⟩ })

/-- R188: the NVM acknowledges. -/
def nvmComplete (c : NvmCommand) (s : State) : State :=
  match c.write with
  | some data => nvmRespond c .done [] { s with nvm := Memory.writeAll c.address data s.nvm }
  | none => nvmRespond c .done (Memory.readAll c.address c.count s.nvm) s

/-- NVM_COMMAND_COMPLETE (R188). -/
def execNvmCommandComplete (s : State) : Answer :=
  match s.sup.nvmPending with
  | some c => .next (nvmComplete c s)
  | none => .next s

/-- NVM_ACK_TIMEOUT (R188): NOT_FOUND; what an unacknowledged write left in each byte is free. -/
def execNvmAckTimeout (s : State) : Answer :=
  match s.sup.nvmPending with
  | some c =>
    let m := cutNvm s
    let s1 := s.reach c.deadline
    .next (nvmRespond c .notFound [] { s1 with nvm := m.1, free := m.2 })
  | none => .next s

/-! ## Resets (R189) -/

/-- RESTART (R188, R189): BUSY while an NVM command is pending; otherwise no response is written. Beside another cause
at one instant see resetPart (DESIGN CHOICE, entry 92). -/
def execRestart (s : State) : Answer :=
  .next (if s.sup.nvmPending.isSome then respond 34 .busy [] s else resetPart .hostRestart s)

/-- POWER_ON (R189). -/
def execPowerOn (s : State) : Answer := .next (resetPart .powerOn s)

/-- RESET_PIN (R189). -/
def execResetPin (s : State) : Answer := .next (resetPart .resetPin s)

/-- SUPPLY_LOW (R189). -/
def execSupplyLow (s : State) : Answer := .next (resetPart .supplyLow s)

/-! ## Start sequence (R186, R190) -/

/-- CONFIG_LOAD_END (R186, R187). -/
def execConfigLoadEnd (acknowledged : Bool) (s : State) : Answer :=
  .next (if s.start.step = .load then endLoad acknowledged s else s)

/-- START_UP_REREAD (R118). -/
def execStartUpReread (s : State) : Answer :=
  .next (if s.start.step = .startUpRead then
      (match s.row.firstReadings with
       | some first =>
         let s1 := s.reach (s.start.rereadAt.getD 0)
         finishRead (rereadings first s1) s1
       | none => s)
    else s)

/-- ROLL_CALL_WINDOW_END (R190). -/
def execRollCallWindowEnd (s : State) : Answer :=
  .next (if s.start.step = .rollCall then endRollCall (s.reach (s.start.windowEnd.getD 0)) else s)

end Sys2Proof.Machine
end

