-- ==== Sys2Proof/Machine/Dispatch.lean ====
section
/-! DEFINITION. The arms: each command's one meaning. -/

namespace Sys2Proof.Machine

def exec (i : Instr) (s : State) : Host.Outcome State Fault Refusal :=
  match i with
  | .setTime date second => Sys2Proof.Machine.execSetTime date second s
  | .readTime => Sys2Proof.Machine.execReadTime s
  | .writeEntry slot days body => Sys2Proof.Machine.execWriteEntry slot days body s
  | .readEntry which => Sys2Proof.Machine.execReadEntry which s
  | .eraseEntry which => Sys2Proof.Machine.execEraseEntry which s
  | .copyActive => Sys2Proof.Machine.execCopyActive s
  | .commitBank target => Sys2Proof.Machine.execCommitBank target s
  | .disarmBank => Sys2Proof.Machine.execDisarmBank s
  | .readBankState => Sys2Proof.Machine.execReadBankState s
  | .putOverride date body => Sys2Proof.Machine.execPutOverride date body s
  | .dropOverride tag => Sys2Proof.Machine.execDropOverride tag s
  | .readPlan => Sys2Proof.Machine.execReadPlan s
  | .readMap => Sys2Proof.Machine.execReadMap s
  | .readPeers => Sys2Proof.Machine.execReadPeers s
  | .readProtection => Sys2Proof.Machine.execReadProtection s
  | .maintHold port => Sys2Proof.Machine.execMaintHold port s
  | .maintRelease port => Sys2Proof.Machine.execMaintRelease port s
  | .forceRelease port => Sys2Proof.Machine.execForceRelease port s
  | .clearSuspect port => Sys2Proof.Machine.execClearSuspect port s
  | .clearLockout => Sys2Proof.Machine.execClearLockout s
  | .clearFaultLine line => Sys2Proof.Machine.execClearFaultLine line s
  | .clearDefect port => Sys2Proof.Machine.execClearDefect port s
  | .manualEnter => Sys2Proof.Machine.execManualEnter s
  | .manualPort port cls => Sys2Proof.Machine.execManualPort port cls s
  | .manualTune khz => Sys2Proof.Machine.execManualTune khz s
  | .manualPower pu => Sys2Proof.Machine.execManualPower pu s
  | .manualRfOn => Sys2Proof.Machine.execManualRfOn s
  | .manualRfOff => Sys2Proof.Machine.execManualRfOff s
  | .manualExitNow => Sys2Proof.Machine.execManualExitNow s
  | .manualExitAtNext => Sys2Proof.Machine.execManualExitAtNext s
  | .readStatus => Sys2Proof.Machine.execReadStatus s
  | .readReport => Sys2Proof.Machine.execReadReport s
  | .clearFlags flags => Sys2Proof.Machine.execClearFlags flags s
  | .setEnables enables => Sys2Proof.Machine.execSetEnables enables s
  | .setLamp lamp source blink invert => Sys2Proof.Machine.execSetLamp lamp source blink invert s
  | .restart => Sys2Proof.Machine.execRestart s
  | .nvmWrite address data => Sys2Proof.Machine.execNvmWrite address data s
  | .nvmRead address count => Sys2Proof.Machine.execNvmRead address count s
  | .unknownCommand number args => Sys2Proof.Machine.execUnknownCommand number args s
  | .transactionCutShort => Sys2Proof.Machine.execTransactionCutShort s
  | .nvmCommandComplete => Sys2Proof.Machine.execNvmCommandComplete s
  | .nvmAckTimeout => Sys2Proof.Machine.execNvmAckTimeout s
  | .powerOn => Sys2Proof.Machine.execPowerOn s
  | .resetPin => Sys2Proof.Machine.execResetPin s
  | .supplyLow => Sys2Proof.Machine.execSupplyLow s
  | .configLoadEnd acknowledged => Sys2Proof.Machine.execConfigLoadEnd acknowledged s
  | .startUpReread => Sys2Proof.Machine.execStartUpReread s
  | .rollCallWindowEnd => Sys2Proof.Machine.execRollCallWindowEnd s
  | .internalSecond => Sys2Proof.Machine.execInternalSecond s
  | .ppsEdge => Sys2Proof.Machine.execPpsEdge s
  | .silenceTimerExpiry => Sys2Proof.Machine.execSilenceTimerExpiry s
  | .bankCheckEnd => Sys2Proof.Machine.execBankCheckEnd s
  | .switchRoles => Sys2Proof.Machine.execSwitch s
  | .overrideExpiry => Sys2Proof.Machine.execOverrideExpiry s
  | .claimTime => Sys2Proof.Machine.execClaimTime s
  | .changeoverStart => Sys2Proof.Machine.execChangeoverStart s
  | .giveUpPoint => Sys2Proof.Machine.execGiveUpPoint s
  | .segmentEnd => Sys2Proof.Machine.execSegmentEnd s
  | .noPortRetry => Sys2Proof.Machine.execNoPortRetry s
  | .droppedRescan => Sys2Proof.Machine.execDroppedRescan s
  | .maintClaimRetry => Sys2Proof.Machine.execMaintClaimRetry s
  | .manualIntentReoffer => Sys2Proof.Machine.execManualIntentReoffer s
  | .refusedFrameReoffer => Sys2Proof.Machine.execRefusedFrameReoffer s
  | .parkedEntryReady => Sys2Proof.Machine.execParkedEntryReady s
  | .lineIdle => Sys2Proof.Machine.execLineIdle s
  | .attemptSpoiled inTailGuard => Sys2Proof.Machine.execAttemptSpoiled inTailGuard s
  | .frameSpoiled bits guardDominant => Sys2Proof.Machine.execFrameSpoiled bits guardDominant s
  | .blockedTimerExpiry => Sys2Proof.Machine.execBlockedTimerExpiry s
  | .contentionWithdrawal => Sys2Proof.Machine.execContentionWithdrawal s
  | .intentReceived sender port cls start => Sys2Proof.Machine.execIntentReceived sender port cls start s
  | .objectReceived sender port held reason release => Sys2Proof.Machine.execObjectReceived sender port held reason release s
  | .holdReceived sender port cls release => Sys2Proof.Machine.execHoldReceived sender port cls release s
  | .releaseReceived sender port forBay => Sys2Proof.Machine.execReleaseReceived sender port forBay s
  | .suspectReceived sender port cause => Sys2Proof.Machine.execSuspectReceived sender port cause s
  | .clearReceived sender port => Sys2Proof.Machine.execClearReceived sender port s
  | .presenceReceived sender body => Sys2Proof.Machine.execPresenceReceived sender body s
  | .objectionWindowExpiry port => Sys2Proof.Machine.execObjectionWindowExpiry port s
  | .intentLapse => Sys2Proof.Machine.execIntentLapse s
  | .peerSilence => Sys2Proof.Machine.execPeerSilence s
  | .presenceInterval => Sys2Proof.Machine.execPresenceInterval s
  | .conflictTimeout => Sys2Proof.Machine.execConflictTimeout s
  | .contactReadingChange port openMade closedMade => Sys2Proof.Machine.execContactReadingChange port openMade closedMade s
  | .travelTimerExpiry => Sys2Proof.Machine.execTravelTimerExpiry s
  | .settleTimerExpiry => Sys2Proof.Machine.execSettleTimerExpiry s
  | .muteStepTimer => Sys2Proof.Machine.execMuteStepTimer s
  | .guardTimerExpiry => Sys2Proof.Machine.execGuardTimerExpiry s
  | .clearanceWaitExpiry => Sys2Proof.Machine.execClearanceWaitExpiry s
  | .muteFail => Sys2Proof.Machine.execMuteFail s
  | .rfPresentFall => Sys2Proof.Machine.execRfPresentFall s
  | .rfPresentRise => Sys2Proof.Machine.execRfPresentRise s
  | .tuneDone => Sys2Proof.Machine.execTuneDone s
  | .tuneTimerExpiry => Sys2Proof.Machine.execTuneTimerExpiry s
  | .tuneLoss => Sys2Proof.Machine.execTuneLoss s
  | .rampStep => Sys2Proof.Machine.execRampStep s
  | .restartHoldEnd => Sys2Proof.Machine.execRestartHoldEnd s
  | .couplerSample vf vr => Sys2Proof.Machine.execCouplerSample vf vr s
  | .recoveryTimerExpiry => Sys2Proof.Machine.execRecoveryTimerExpiry s
  | .capTimerExpiry => Sys2Proof.Machine.execCapTimerExpiry s
  | .arc staysActive => Sys2Proof.Machine.execArc staysActive s
  | .tripAgeing => Sys2Proof.Machine.execTripAgeing s
  | .proofRunComplete => Sys2Proof.Machine.execProofRunComplete s
  | .faultLineLevelChange line pinHigh => Sys2Proof.Machine.execFaultLineLevelChange line pinHigh s

end Sys2Proof.Machine
end

