-- ==== Sys2Proof/Machine/Clock.lean ====
section
/-! DEFINITION. The part with no command waiting: its own timers, counts and stamps that are due, in a fixed order,
and else one ms of the oscillator (entry 1). -/

namespace Sys2Proof.Machine

/-- An oscillator time is reached. -/
def State.past (s : State) (t : Option Nat) : Bool := t.any (fun x => decide (x ≤ s.time.osc))

/-- A condition with the command that answers it. -/
abbrev Due := Bool × Instr

/-- R2, R5, R118, R190: the time unit and the start sequence. -/
def dueStart (s : State) : List Due :=
  [(decide (s.time.phaseZero + 1000 ≤ s.time.osc), .internalSecond),
   (s.past s.time.silence, .silenceTimerExpiry),
   (decide (s.start.step = .startUpRead) && s.row.firstReadings.isSome && s.past s.start.rereadAt,
    .startUpReread),
   (decide (s.start.step = .rollCall) && s.past s.start.windowEnd, .rollCallWindowEnd)]

/-- R24, R26, R32, R47 to R53, R134: the schedule store and the planner. -/
def duePlan (s : State) : List Due :=
  [(decide (s.store.pendingState = .checking) && s.past s.store.checkEnd, .bankCheckEnd),
   (s.switchDue, .switchRoles),
   (s.store.overrides.any (fun o => decide (o.stop ≤ s.stamp)), .overrideExpiry),
   (s.endDue, .segmentEnd),
   (s.startDue, .changeoverStart),
   (s.currentGivenUp || s.nextGivenUp, .giveUpPoint),
   (s.claimDue, .claimTime),
   (!s.retriesDue.isEmpty, .noPortRetry),
   (!s.rescansDue.isEmpty, .droppedRescan)]

/-- R69, R71, R60, R86, R96, R98, R99, R106, R175: the hall bus link and the claim unit. -/
def dueHall (s : State) : List Due :=
  [(s.hall.maint.any (fun e => decide (e.state = .claiming ∧ e.claim.state = .unclaimed) &&
      s.reached e.claim.rescanAt), .maintClaimRetry),
   (s.hall.manualClaim.any (fun m => decide (m.claim.state = .unclaimed) && s.reached m.claim.rescanAt),
    .manualIntentReoffer),
   (s.hall.refused.any (fun r => decide (r.due ≤ s.time.elapsed)), .refusedFrameReoffer),
   (s.link.queue.any (fun e => s.reached e.parkedUntil), .parkedEntryReady),
   (s.past s.link.blocked, .blockedTimerExpiry),
   (s.link.lineIdle && s.link.headReady && decide (s.link.engine = .idle), .lineIdle),
   (s.hall.map.toList.any (fun r =>
      match r.mark with
      | .intended _ _ _ l => decide (l ≤ s.time.elapsed)
      | _ => false), .intentLapse),
   (s.hall.peers.toList.any (fun r => decide (r.presence = .present ∧ r.lastFrame + 7 ≤ s.time.elapsed)),
    .peerSilence),
   (s.presenceDue, .presenceInterval),
   (s.conflictDue, .conflictTimeout)]

/-- R89: the objection windows whose end is reached. -/
def dueWindows (s : State) : List Due :=
  s.holders.filterMap (fun h =>
    if s.inWindow h && s.past ((s.claimOf h).bind Claim.window) then
      (s.claimTuple h).map (fun t => (true, .objectionWindowExpiry t.1))
    else none)

/-- R112, R113, R123 to R136: the row driver and the sequencer. -/
def dueChangeover (s : State) : List Due :=
  [(s.past s.row.travelTimer, .travelTimerExpiry),
   (s.past s.row.settleTimer, .settleTimerExpiry),
   (decide (s.seq.state = .muting ∧ s.muteDue ≤ s.time.osc), .muteStepTimer),
   (decide (s.seq.state = .guarding) && s.past s.seq.guardTimer, .guardTimerExpiry),
   (s.past s.seq.clearWait, .clearanceWaitExpiry),
   (s.past (s.seq.watch.map (fun t => t + s.cfg.tRfoff)), .muteFail),
   (s.past s.seq.tuneTimer, .tuneTimerExpiry),
   (s.past s.seq.stepTimer, .rampStep),
   (decide (s.seq.state = .restartHold) && s.reached s.seq.holdEnd, .restartHoldEnd)]

/-- R150, R152, R156, R160, R188: the protection unit and the NVM. -/
def dueProtection (s : State) : List Due :=
  [(s.past s.prot.recoveryTimer, .recoveryTimerExpiry),
   (s.past s.prot.capTimer, .capTimerExpiry),
   (s.prot.lockout.isNone && s.prot.trips.any (fun t => decide (t.elapsed + s.cfg.tripWindow ≤ s.time.elapsed)),
    .tripAgeing),
   (s.proofDue, .proofRunComplete),
   (s.past (s.sup.nvmPending.map NvmCommand.deadline), .nvmAckTimeout)]

/-- Every event of the part's own that may be due. An event that brings outside data (a sample, a contact
reading, a frame, a pin) is never among them. -/
def dueList (s : State) : List Due :=
  dueStart s ++ duePlan s ++ dueHall s ++ dueWindows s ++ dueChangeover s ++ dueProtection s

/-- The first event that is due. -/
def dueCommand (s : State) : Option Instr := ((dueList s).find? Prod.fst).map Prod.snd

/-- Section 4.4: an attempt past its contention goes on sending, and a spoil run ends. -/
def Engine.onward : Engine → Engine
  | .contending => .sending
  | .spoiling => .idle
  | e => e

/-- One ms of the oscillator. -/
def passMs (s : State) : State :=
  { s with time := { s.time with osc := s.time.osc + 1 },
           link := { s.link with engine := s.link.engine.onward } }

/-- R108, R164: the samples of the fault lines and of the contacts that are due, or one ms of the oscillator. -/
def sampleOrPass (s : State) : State :=
  if s.lines.sampleDue ≤ s.time.osc then sampleLines s
  else if s.row.sampleDue ≤ s.time.osc then sampleContacts s
  else passMs s

/-- DESIGN CHOICE (entry 1): one step of the part with no command waiting. -/
def tick (s : State) : Answer :=
  match dueCommand s with
  | some c => exec c s
  | none => .next (sampleOrPass s)

end Sys2Proof.Machine
end

