-- ==== Sys2Proof/Safety.lean ====
section
/-! DEFINITION. The terms in which claims about the part are stated: what a command leaves alone, how a host
command is answered, and what holds of a part that runs safely. -/

namespace Sys2Proof.Machine

/-! ## Frames -/

/-- The NVM, the inputs and the queue of waiting commands are the same. -/
def sameOutside (s t : State) : Prop := t.nvm = s.nvm ∧ t.inputs = s.inputs ∧ t.pending = s.pending

/-- The configuration, the fault lines and everything outside are the same. -/
def sameSetting (s t : State) : Prop := sameOutside s t ∧ t.start = s.start ∧ t.lines = s.lines

/-- Beside it the time unit, the schedule store and the free values: what no rule of the planner, the link,
the claim unit, the row driver or the sequencer writes. -/
def sameBase (s t : State) : Prop :=
  sameSetting s t ∧ t.time = s.time ∧ t.store = s.store ∧ t.free = s.free

/-- Beside it the row driver, the protection unit and the manual settings. -/
def sameBay (s t : State) : Prop :=
  sameBase s t ∧ t.row = s.row ∧ t.prot = s.prot ∧ t.manual = s.manual

/-- The supervisor port but for its reports and sticky flags. -/
def samePort (s t : State) : Prop :=
  t.sup.sequence = s.sup.sequence ∧ t.sup.response = s.sup.response ∧ t.sup.enables = s.sup.enables ∧
    t.sup.lamps = s.sup.lamps ∧ t.sup.nvmPending = s.sup.nvmPending

/-! ## Answers (R181) -/

/-- The port after a command of this number is answered with this result and this data. -/
def answerTo (number : Nat) (r : Result) (data : List Byte) (u : Supervisor) : Supervisor :=
  { u with
    sequence := (u.sequence + 1) % 256,
    response := { sequence := (u.sequence + 1) % 256, number := number, result := some r, data := data } }

/-- The state that is left when a command does nothing but answer. -/
def onlyAnswers (number : Nat) (r : Result) (data : List Byte) (s : State) : State :=
  { s with sup := answerTo number r data s.sup }

/-! ## A safe part -/

/-- R122, R151: without the RF permit the power demand is 0. -/
def noPowerWithoutPermit (s : State) : Prop := s.seq.permit = false → s.prot.demand = 0

/-- R183: the report queue holds at most 32 records. -/
def reportsFit (s : State) : Prop := s.sup.reports.length ≤ 32

/-- R68: the transmit queue holds at most 8 entries. -/
def queueFits (s : State) : Prop := s.link.queue.length ≤ 8

/-- The NVM is held in its canonical form. -/
def nvmCanonical (s : State) : Prop := s.nvm.wf = true

/-! ## Terms of chapter 2 -/

/-- R18: the fields of an entry that lie in their ranges. -/
def fieldsInRange (c : Params) (b : EntryBody) : Prop :=
  b.startMin ≤ 1439 ∧ 1 ≤ b.duration ∧ b.duration ≤ 1440 ∧ c.fLo ≤ b.freq ∧ b.freq ≤ c.fHi ∧
    1 ≤ b.power ∧ b.power ≤ 6000 ∧ 1 ≤ b.cls ∧ b.cls ≤ 3 ∧ 1 ≤ b.ports.length ∧ b.ports.length ≤ 4 ∧
    (∀ p ∈ b.ports, p ≤ 31) ∧ b.ports.Nodup ∧ b.programme ≤ 7

/-- R22: week minute `m` lies in a weekly span of the entry. -/
def occupies (e : BankEntry) (m : Nat) : Prop :=
  ∃ d k, d < 7 ∧ e.days.getLsbD d = true ∧ k < e.body.duration ∧
    m = (d * 1440 + e.body.startMin + k) % 10080

/-- R22: two used slots share a week minute. -/
def slotsShare (b : Bank) (i j : Nat) : Prop :=
  ∃ x y m, b.get i = some x ∧ b.get j = some y ∧ occupies x m ∧ occupies y m

/-- R31: the override list is in order of start, its spans do not overlap, and its tags are distinct and at
most 15, so that it holds at most 16. -/
def overridesApart (s : State) : Prop :=
  s.store.overrides.Pairwise (fun x y => x.stop ≤ y.start ∧ x.tag ≠ y.tag) ∧
    ∀ o ∈ s.store.overrides, o.start < o.stop ∧ o.tag ≤ 15

/-- R27: no two used entries of the active bank overlap, nor of a pending bank that is armed. -/
def serviceChecked (s : State) : Prop :=
  firstOverlap (usedSlots s.store.activeBank) = none ∧
    (s.store.pendingState = .armed → firstOverlap (usedSlots s.store.pendingBank) = none)

/-- R18: every used slot of both stores has a start minute and a duration of the entry record. -/
def slotsTimed (s : State) : Prop :=
  ∀ q ∈ usedSlots s.store.bank0 ++ usedSlots s.store.bank1,
    q.2.body.startMin ≤ 1439 ∧ 1 ≤ q.2.body.duration ∧ q.2.body.duration ≤ 1440

/-! ## Terms of chapters 6, 7 and 9 -/

/-- R166: line `i` alone keeps an action in force. -/
def lastAction (f : LineConfig → Bool) (i : Nat) (s : State) : Prop :=
  (s.lines.line.get i).latched = true ∧ f (s.cfg.lines.get i) = true ∧
    ∀ j, j < 4 → j ≠ i → (s.lines.line.get j).latched = true → f (s.cfg.lines.get j) = false

/-- R137: a settled schedule assignment waits in PAUSED, and no conflict stands. -/
def pausedWith (c : Current) (s : State) : Prop :=
  s.seq.state = .paused ∧ s.seq.permit = false ∧ s.hall.conflicts = [] ∧ s.inputs.arc = false ∧
    s.seq.current = some c ∧ c.source ≠ .manual ∧ c.claim.state = .won

/-- R130, R137: the last cause of PAUSED has lifted; the bay ramps from 0 under the cap, or goes through GUARD where
its port or its tune is not ready. -/
def pauseEnds (c : Current) (s t : State) : Prop :=
  (s.portReady c = true → s.seq.tuneSub = .tuned → s.seq.tuneFreq = c.freq →
    t.seq.state = .ramping ∧ t.seq.permit = true ∧ t.seq.stepCount = 0 ∧ t.prot.demand = 0 ∧
      t.prot.cap = s.prot.cap) ∧
  (s.portReady c = false ∨ s.seq.tuneSub ≠ .tuned → t.seq.state = .guarding ∧ t.seq.permit = false)

/-- R110, R111: nothing but a HOLD_MOTION action keeps the waiting row command from its start. -/
def onlyHeldBack (s : State) : Prop :=
  s.seq.state ≠ .matrixFault ∧ s.row.motion = .still ∧ s.row.recoveryOf = none ∧ s.seq.clearance = true ∧
    s.seq.permit = false

/-- R110: the row driver has no pulse and no settle, and neither a command nor a recovery open waits in it. -/
def rowQuiet (s : State) : Prop := s.row.motion = .still ∧ s.row.waiting = none ∧ s.row.recoveryOf = none

/-- R40, R126: a schedule assignment whose chosen port `p` is settled. -/
def settledOn (c : Current) (p : Nat) : Prop :=
  c.source ≠ .manual ∧ c.claim.state = .won ∧ c.port = some p ∧ c.chosen = some p

/-- R130: REPOSITION has ended for a current assignment: RAMPING with the permit asserted and the demand 0, or PAUSED
under an inhibit. An arc input already active trips at once (R153) and is left out here. -/
def repositionEnds (c : Current) (s t : State) : Prop :=
  (s.rfInhibit = false → s.inputs.arc = false →
    t.seq.state = .ramping ∧ t.seq.permit = true ∧ t.seq.stepCount = 0 ∧ t.prot.demand = 0 ∧
      t.seq.clearance = false ∧ t.seq.stepTimer = some (t.time.osc + s.cfg.tStep) ∧
      t.seq.programme = c.programme ∧ t.prot.sampleDue = some (t.time.osc + 10)) ∧
  (s.rfInhibit = true → t.seq.state = .paused ∧ t.seq.permit = false)

/-- R124, R151: MUTING starts from the demand `d0` that stood, as far as the target, the limit and the cap after the
event let it stand (DEDUCED, entry 35). -/
def mutesFrom (d0 : Nat) (t : State) : Prop :=
  t.seq.muteDemand = min d0 (min t.prot.target (min t.prot.limit t.prot.cap))

/-- R82, R90: the echo of the HOLD that a claim on port `p` sent at its window's end, with room in the queue behind
it, no other bay holding its curtain and no conflict standing. -/
def holdEcho (p cls release : Nat) (s : State) : Prop :=
  deliverable s.bay (.hold p cls release) = true ∧ s.isEcho s.bay (.hold p cls release) = true ∧
    s.rivalHold p = none ∧ s.hall.conflicts = [] ∧ s.mayOffer = true ∧ s.sup.reports.length < 32 ∧
    ∃ e rest, s.link.queue = e :: rest ∧ rest.length ≤ 5 ∧ e.withdrawn = false ∧ e.refresh = false

/-- R88, R89: a claim that waits for the echo of its HOLD. -/
def holdSent (c : Claim) : Prop := c.state = .inWindow ∧ c.window = none ∧ c.holdOffered = true

/-- R110 to R112, R117: the waiting command has started its pulse. -/
def waitingStarts (s t : State) : Prop :=
  ∀ p, p < 32 →
    let began (m : Motion) := t.row.motion = m ∧ t.row.waiting = none ∧
      t.row.travelTimer = some (s.time.osc + s.cfg.tTravel) ∧ (t.point p).settled = false
    (s.row.waiting = some (.openPort p) → (s.point p).reading ≠ .atOpen → began (.opening p)) ∧
    (s.row.waiting = some (.closePort p) → (s.point p).defect = none → s.ownHeld p = true →
      (s.portRec p).lastEcho = .hold → (∀ q, q < 32 → q ≠ p → (s.point q).reading = .atOpen) →
      (s.point p).reading ≠ .atClosed → began (.closing p))

/-! ## Terms of chapters 8 to 11 -/

/-- R155, R152, R157: what a trip leaves behind. The list gains its entry, the second entry reduces the cap, the
third locks the bay out, and the report and the sticky flag stand. -/
def tripTaken (cause : TripCause) (sv : Nat) (s t : State) : Prop :=
  let n := s.prot.trips.length + 1
  let port := s.seq.current.bind (fun c => c.port)
  t.seq.permit = false ∧ t.prot.demand = 0 ∧ t.prot.pairFlag = false ∧ t.prot.recoveryTimer = none ∧
    t.prot.proof = none ∧
    t.prot.trips = s.prot.trips ++
      [{ elapsed := s.time.elapsed, stamp := s.stamp, cause := cause, port := port }] ∧
    t.sup.sticky.tripSeen = true ∧
    (⟨s.stamp, .trip, portCode port, tripCode cause * 16777216 + n * 65536 + sv⟩ : Report) ∈ t.sup.reports ∧
    (n = 2 → t.prot.capState = .reduced ∧ t.prot.cap = s.prot.target / 2) ∧
    (n ≠ 2 → t.prot.capState = s.prot.capState ∧ t.prot.cap = s.prot.cap) ∧
    (n < 3 → t.prot.lockout = none ∧
      (s.seq.state = .muting → t.seq.state = .guarding) ∧
      (s.seq.state ≠ .muting → t.seq.state = .restartHold ∧
        t.seq.holdEnd = some (s.time.elapsed + s.cfg.restartHold))) ∧
    (3 ≤ n → t.seq.state = .locked ∧
      t.prot.lockout = some { cause := .trips cause, port := s.lockoutPort, stamp := s.stamp } ∧
      ∀ p, s.lockoutPort = some p → (p, tripCode cause) ∈ t.hall.suspects)

/-- The states in which R155 and R157 have their plain effect: RF permitted, no lockout yet, the start state
taken, and room for the reports. -/
def tripReady (s : State) : Prop :=
  s.seq.permit = true ∧ s.prot.lockout = none ∧ s.started = true ∧ s.seq.state ≠ .matrixFault ∧
    s.seq.state ≠ .configFault ∧ s.sup.reports.length ≤ 28

/-- R181: the commands of the table that the port answers under their own number; RESTART writes none. -/
def hostNumber (i : Instr) : Option Nat :=
  if i = .restart then none else (encodeCommand i).bind (fun bs => bs.head?.map BitVec.toNat)

/-- The commands of R181, R188 and R189 by which the held response changes. -/
def touchesResponse (i : Instr) : Bool :=
  (encodeCommand i).isSome ||
    (match i with
     | .unknownCommand _ _ => true
     | .nvmCommandComplete => true
     | .nvmAckTimeout => true
     | .powerOn => true
     | .resetPin => true
     | .supplyLow => true
     | _ => false)

/-- A number of the configuration block: its value as stored, its range, and the value in use. -/
structure BlockNumber where
  stored : Nat
  lo : Nat
  hi : Nat
  used : Nat
  deriving DecidableEq, Repr

/-- One byte of the NVM as a number. -/
def nvmByte (m : Memory) (a : Nat) : Nat := (m.read a).toNat

/-- Two bytes of the NVM as a number, high byte first (section 11.6). -/
def nvmPair (m : Memory) (a : Nat) : Nat := nvmByte m a * 256 + nvmByte m (a + 1)

/-- Section 11.6: the numbers in bytes 0 to 39. -/
def blockNumbers (m : Memory) (c : Params) : List BlockNumber :=
  [⟨nvmPair m 0, 1, 6000, c.rating⟩, ⟨nvmPair m 2, 3900, 26100, c.fLo⟩, ⟨nvmPair m 4, 3900, 26100, c.fHi⟩,
   ⟨nvmPair m 6, 100, 2000, c.tMute⟩, ⟨nvmPair m 8, 50, 1000, c.tGuard⟩, ⟨nvmPair m 10, 500, 8000, c.tTravel⟩,
   ⟨nvmPair m 12, 20, 500, c.tSettle⟩, ⟨nvmPair m 14, 2000, 60000, c.tTune⟩, ⟨nvmPair m 16, 50, 1000, c.tStep⟩,
   ⟨nvmPair m 18, 500, 5000, c.tRfoff⟩, ⟨nvmByte m 20, 10, 120, c.claimMargin⟩,
   ⟨nvmPair m 21, 0, 600, c.lateTolerance⟩, ⟨nvmPair m 23, 10, 600, c.minAir⟩, ⟨nvmPair m 25, 16, 1024, c.vMin⟩,
   ⟨nvmPair m 27, 1, 65535, c.kCal⟩, ⟨nvmPair m 29, 110, 500, c.sW⟩, ⟨nvmPair m 31, 120, 600, c.sT⟩,
   ⟨nvmPair m 33, 100, 900, c.fMin⟩, ⟨nvmByte m 35, 1, 60, c.restartHold⟩, ⟨nvmPair m 36, 10, 600, c.tripWindow⟩,
   ⟨nvmPair m 38, 10, 600, c.proofTime⟩]

/-- Section 11.6: the numbers of port p's seven bytes. -/
def rowNumbers (m : Memory) (p : Nat) (r : AntennaRow) : List BlockNumber :=
  let o := 48 + 7 * p
  [⟨nvmByte m o, 0, 15, r.curtain⟩, ⟨nvmPair m (o + 1), 3900, 26100, r.fmin⟩,
   ⟨nvmPair m (o + 3), 3900, 26100, r.fmax⟩, ⟨nvmPair m (o + 5), 1, 6000, r.maxPower⟩]

/-- Every number of the block. -/
def allNumbers (m : Memory) (c : Params) (rows : Table AntennaRow 32) : List BlockNumber :=
  blockNumbers m c ++ (List.range 32).flatMap (fun p => rowNumbers m p (rows.get p))

/-- R186: `c` holds the values of the block as clamped, with `rows` as its antenna table. -/
def blockGives (m : Memory) (c : Params) (rows : Table AntennaRow 32) : Prop :=
  c.antenna = some rows ∧ (∀ x ∈ allNumbers m c rows, x.used = max x.lo (min x.hi x.stored)) ∧
  (∀ i, i < 4 →
    let b := m.read (40 + i)
    let l := c.lines.get i
    (l.polarity = .activeLow ↔ b.getLsbD 0 = true) ∧ (l.detect = .edge ↔ b.getLsbD 1 = true) ∧
      l.mute = b.getLsbD 2 ∧ l.holdMotion = b.getLsbD 3 ∧ l.lockout = b.getLsbD 4 ∧ l.report = b.getLsbD 5 ∧
      l.clearMode = (if b.toNat / 64 = 0 then .auto else if b.toNat / 64 = 1 then .manualRearm
        else .manualLevel)) ∧
  (∀ i, i < 4 →
    let b := m.read (44 + i)
    let l := c.lamps.get i
    lampSourceCode l.source = min 10 (b.toNat % 16) ∧ blinkCode l.blink = min 2 (b.toNat / 16 % 4) ∧
      l.invert = b.getLsbD 6) ∧
  c.signature = (crc (m.readAll 48 224)).toNat

/-- R186: no value of the block is changed by clamping. -/
def blockPlain (m : Memory) (c : Params) (rows : Table AntennaRow 32) : Prop :=
  (∀ x ∈ allNumbers m c rows, x.lo ≤ x.stored ∧ x.stored ≤ x.hi) ∧
  ∀ i, i < 4 → nvmByte m (40 + i) / 64 < 3 ∧ nvmByte m (44 + i) % 16 ≤ 10 ∧ nvmByte m (44 + i) / 16 % 4 < 3

/-- R186: the fault tests on the clamped values and the check word are passed, and the NVM has acknowledged. -/
def blockPasses (acknowledged : Bool) (m : Memory) (c : Params) (rows : Table AntennaRow 32) : Prop :=
  acknowledged = true ∧ crcBytes (m.readAll 0 272) = m.readAll 272 2 ∧ c.sW < c.sT ∧ c.fLo ≤ c.fHi ∧
    ∀ p, p < 32 → (rows.get p).fmin ≤ (rows.get p).fmax

/-- R186: every parameter of a loaded block lies in its range of section 11.6, and the fault tests pass. -/
def paramsSound (c : Params) : Prop :=
  (1 ≤ c.rating ∧ c.rating ≤ 6000) ∧ 3900 ≤ c.fLo ∧ c.fLo ≤ c.fHi ∧ c.fHi ≤ 26100 ∧
    (100 ≤ c.tMute ∧ c.tMute ≤ 2000) ∧ (50 ≤ c.tGuard ∧ c.tGuard ≤ 1000) ∧
    (500 ≤ c.tTravel ∧ c.tTravel ≤ 8000) ∧ (20 ≤ c.tSettle ∧ c.tSettle ≤ 500) ∧
    (2000 ≤ c.tTune ∧ c.tTune ≤ 60000) ∧ (50 ≤ c.tStep ∧ c.tStep ≤ 1000) ∧
    (500 ≤ c.tRfoff ∧ c.tRfoff ≤ 5000) ∧ (10 ≤ c.claimMargin ∧ c.claimMargin ≤ 120) ∧
    c.lateTolerance ≤ 600 ∧ (10 ≤ c.minAir ∧ c.minAir ≤ 600) ∧ (16 ≤ c.vMin ∧ c.vMin ≤ 1024) ∧
    (1 ≤ c.kCal ∧ c.kCal ≤ 65535) ∧ (110 ≤ c.sW ∧ c.sW ≤ 500) ∧ (120 ≤ c.sT ∧ c.sT ≤ 600) ∧
    c.sW < c.sT ∧ (100 ≤ c.fMin ∧ c.fMin ≤ 900) ∧ (1 ≤ c.restartHold ∧ c.restartHold ≤ 60) ∧
    (10 ≤ c.tripWindow ∧ c.tripWindow ≤ 600) ∧ (10 ≤ c.proofTime ∧ c.proofTime ≤ 600) ∧
    ∀ rows, c.antenna = some rows → ∀ p, p < 32 →
      (rows.get p).curtain ≤ 15 ∧ 3900 ≤ (rows.get p).fmin ∧ (rows.get p).fmin ≤ (rows.get p).fmax ∧
        (rows.get p).fmax ≤ 26100 ∧ 1 ≤ (rows.get p).maxPower ∧ (rows.get p).maxPower ≤ 6000

end Sys2Proof.Machine
end

