-- ==== Sys2Proof/Certificates/Slice0/Obligations.lean ====
section
/-! DEFINITION. The statements for the provers, chapter by chapter. -/

open Sys2Proof Sys2Proof.Machine

/-! ## The step -/

/-- A waiting command is carried out first in, first out: `exec` runs on the state with the queue's rest. What a step
does on an empty queue is the model's choice of the order of things at one instant and of the passing of time (DESIGN
CHOICE, entry 1): an event of the part that is due runs as its command, and one runs wherever one is due; else the fault
lines are sampled, every 10 ms, or the contacts, every 5 ms, and of either two consecutive samples that agree set the
level (R164) or the reading (R108); else one ms passes, and no count or timer is passed by. -/
def Obligations.StepRunsTheFrontCommand : Prop :=
  (∀ (c : Instr) (rest : List Instr) (s : State), s.pending = c :: rest →
    step s = exec c { s with pending := rest }) ∧
  (∀ s : State, s.pending = [] →
    (∀ c, dueCommand s = some c → (true, c) ∈ dueList s ∧ step s = exec c s) ∧
    (∀ c, (true, c) ∈ dueList s → dueCommand s ≠ none) ∧
    (dueCommand s = none →
      (s.lines.sampleDue ≤ s.time.osc → ∃ t, step s = .next t ∧ t.time = s.time ∧ t.inputs = s.inputs ∧
        t.lines.sampleDue = s.lines.sampleDue + 10 ∧
        ∀ i, i < 4 →
          let pin := s.inputs.linePins.get i
          (t.faultLine i).lastPin = some pin ∧
            (t.faultLine i).filtered =
              (if s.start.step ≠ .load ∧ (s.faultLine i).lastPin = some pin then
                (if (s.cfg.lines.get i).polarity = .activeHigh ↔ pin = true then .active else .inactive)
               else (s.faultLine i).filtered)) ∧
      (s.time.osc < s.lines.sampleDue → s.row.sampleDue ≤ s.time.osc →
        ∃ t, step s = .next t ∧ t.time = s.time ∧ t.inputs = s.inputs ∧ t.lines = s.lines ∧
          t.row.sampleDue = s.row.sampleDue + 5 ∧
          ∀ p, p < 32 →
            let r := s.inputs.contactReading p
            (t.point p).lastSample = some r ∧
              (t.point p).reading = (if (s.point p).lastSample = some r then r else (s.point p).reading)) ∧
      (s.time.osc < s.lines.sampleDue → s.time.osc < s.row.sampleDue →
        s.time.osc < s.time.phaseZero + 1000 ∧
        (∀ x, some x ∈ [s.time.silence, s.link.blocked, s.row.travelTimer, s.row.settleTimer, s.seq.clearWait,
            s.seq.tuneTimer, s.seq.stepTimer, s.prot.recoveryTimer, s.prot.capTimer] → s.time.osc < x) ∧
        step s = .next { s with
          time := { s.time with osc := s.time.osc + 1 },
          link := { s.link with engine := s.link.engine.onward } })))


/-! ## Chapter 1, the time unit -/

/-- R2, R1: an internal second counts on both counts in every quality and is the second last counted (R3); the rest
of the time unit, the row, the link, the claim unit, the protection unit and the manual settings are left alone.
The planner, which forms a next record at a second counted (R41), may write the plan, file ENTRY_MISSED and write
the current assignment's record, and writes nothing where it already has a next record or may form none. That the
event brings its own instant is the model's (entry 2), as is the unwrapped count behind the 32 bits shown
(entry 18). -/
def Obligations.InternalSecondCountsOnBothCounts : Prop :=
  ∀ s : State, s.time.second < 86400 → s.time.osc ≤ s.time.phaseZero + 1000 →
    ∃ t, exec .internalSecond s = .next t ∧
      t.time.osc = s.time.phaseZero + 1000 ∧ t.phase = 0 ∧ t.time.second < 86400 ∧
      t.stamp = (if s.stamp < stampMax then s.stamp + 1 else s.stamp) ∧
      t.time.elapsed = s.time.elapsed + 1 ∧ t.time.lastCounted = some (s.time.phaseZero + 1000) ∧
      t.time = { s.time with osc := t.time.osc, phaseZero := t.time.phaseZero, day := t.time.day,
                             second := t.time.second, elapsed := t.time.elapsed,
                             lastCounted := t.time.lastCounted } ∧
      t = { s with time := t.time, plan := t.plan, seq := t.seq, sup := t.sup } ∧
      t.seq = { s.seq with current := t.seq.current } ∧
      t.seq.current.map Current.port = s.seq.current.map Current.port ∧
      samePort s t ∧ s.sup.reports <+: t.sup.reports ∧
      (∀ r ∈ t.sup.reports, r ∈ s.sup.reports ∨ r.kind = .entryMissed) ∧
      (s.plan.next ≠ none ∨ s.canPlan = false ∨ s.currentSettled = false → t = { s with time := t.time })

/-- R3, R5, R6, R10: an edge sets the phase to 0 and keeps the PPS history; with no set pending it counts a
second unless one was counted within the last 100 ms, and otherwise applies the set in place of the advance;
the third well-spaced edge ends HOLDOVER. That an edge exactly 100 ms after a counted second counts none is
DEDUCED (entry 17). -/
def Obligations.PpsEdgeCountsOrAppliesThePendingSet : Prop :=
  ∀ s : State, s.time.second < 86400 →
    let run := if s.time.lastEdge.any
        (fun e => decide (950 ≤ s.time.osc - e ∧ s.time.osc - e ≤ 1050)) then min 3 (s.time.run + 1)
      else 1
    ∃ t, exec .ppsEdge s = .next t ∧ t.time.osc = s.time.osc ∧ t.phase = 0 ∧
      t.time.lastEdge = some s.time.osc ∧ t.time.silence = some (s.time.osc + 2500) ∧ t.time.run = run ∧
      sameSetting s t ∧ samePort s t ∧
      (s.time.pendingSet = none →
        (if s.time.lastCounted.any (fun c => decide (s.time.osc - c ≤ 100)) then
          t.stamp = s.stamp ∧ t.time.elapsed = s.time.elapsed
         else
          t.stamp = (if s.stamp < stampMax then s.stamp + 1 else s.stamp) ∧
            t.time.elapsed = s.time.elapsed + 1 ∧ t.time.lastCounted = some s.time.osc) ∧
        t.time.quality = (if s.time.quality = .holdover ∧ run = 3 then .locked else s.time.quality) ∧
        t.store = s.store ∧ t.link = s.link ∧ t.hall = s.hall ∧ t.row = s.row ∧ t.prot = s.prot ∧
        t.manual = s.manual) ∧
      (∀ date second, s.time.pendingSet = some (date, second) →
        t.time.day = date ∧ t.time.second = second ∧ t.time.pendingSet = none ∧
        t.time.elapsed = s.time.elapsed + 1 ∧ t.time.lastCounted = some s.time.osc ∧
        t.time.quality =
          (if s.time.quality = .unset then (if run = 3 then .locked else .holdover)
           else if s.time.quality = .holdover ∧ run = 3 then .locked else s.time.quality))

/-- R8, R11: SET_TIME is refused out of its range, becomes the pending set while the PPS is present, and is applied at
once while it is absent. R12 to R15: a jump keeps a current assignment whose span contains the new stamp, or that is
still on its way and has not ended, and ends any other as at its segment end; a forward jump files TIME_SET and then one
ENTRY_MISSED for each segment that lies in the skipped interval and starts in its first 24 h, each once and in order of
start. The first two jump clauses are stated for a store without overrides and without an armed bank, and what is kept
for an assignment whose occurrence has the end that the store now gives it (R54); the last for a bay without a current
assignment, with any overrides and an armed bank: there the timeline is that of the store as it stood and is read from
the later of the expected stamp and the planning floor (DEDUCED, entry 20), and the reports of the skipped segments go
before that of a switch that the jump brings (DEDUCED, entry 19). That MUTING starts from the demand that stood, as far
as the new target lets it stand, is DEDUCED (entry 35). -/
def Obligations.SetTimeWaitsForTheEdgeOrAppliesAtOnce : Prop :=
  (∀ (s : State) (date second : Nat),
    (if second > 86399 ∨ date * 86400 + second > 4294967294 then
      exec (.setTime date second) s = .next (onlyAnswers 1 .badArgument [] s)
     else if s.time.silence.isSome then
      exec (.setTime date second) s = .next
        { s with time := { s.time with pendingSet := some (date, second) },
                 sup := answerTo 1 .done [] s.sup }
     else
      ∃ t, exec (.setTime date second) s = .next t ∧ t.stamp = date * 86400 + second ∧ t.phase = 0 ∧
        t.time.osc = s.time.osc ∧ t.time.elapsed = s.time.elapsed ∧ t.time.pendingSet = none ∧
        t.time.quality = (if s.time.quality = .unset then .holdover else s.time.quality) ∧
        t.time.run = s.time.run ∧ sameSetting s t ∧
        t.sup.sequence = (s.sup.sequence + 1) % 256 ∧
        t.sup.response = { sequence := (s.sup.sequence + 1) % 256, number := 1, result := some .done,
                           data := [] })) ∧
  (∀ (s : State) (date second : Nat), second ≤ 86399 → date * 86400 + second ≤ 4294967294 →
    s.time.silence = none → s.time.quality ≠ .unset →
    let new := date * 86400 + second
    (∀ c, s.seq.current = some c → c.source ≠ .manual → s.store.overrides = [] →
      s.store.pendingState ≠ .armed →
      (c.segEnd = some c.occEnd → new < c.occEnd → (s.seq.state.inFlight = true ∨ c.segStart ≤ new) →
        (∀ o, appliesAt s.store c.segStart = some o → c.source = .entry o.number o.day → o.stop = c.occEnd) →
        ∃ t d, exec (.setTime date second) s = .next t ∧ t.stamp = new ∧ t.seq.current = some d ∧
          d.source = c.source ∧ d.segStart = c.segStart ∧ d.segEnd = c.segEnd ∧ d.port = c.port ∧
          t.seq = { s.seq with current := some d } ∧ t.prot = s.prot ∧ t.row = s.row) ∧
      (∀ e n, c.segEnd = some e → e ≤ new ∨ (s.seq.state.inFlight = false ∧ new < c.segStart) →
        new ≠ s.stamp → s.seq.state = .onAir → s.plan.next = none → c.onAirStamp ≠ none →
        c.onAirCount = some n → (∀ x l, nextSegment s.store x l = none) → s.sup.reports.length ≤ 30 →
        ∃ t, exec (.setTime date second) s = .next t ∧ t.stamp = new ∧ t.seq.current = none ∧
          t.seq.state = .muting ∧ t.seq.permit = s.seq.permit ∧ mutesFrom s.prot.demand t ∧
          t.plan.next = none ∧
          s.sup.reports ++ [⟨new, .timeSet, 0, s.stamp⟩,
            ⟨new, .entryEnded, sourceCode c.source, (s.time.elapsed - n) % 2 ^ 32⟩] <+: t.sup.reports)) ∧
    (s.seq.current = none → s.canPlan = true → s.stamp < new → s.plan.floor < s.stamp + 86400 →
      overridesApart s → serviceChecked s → slotsTimed s →
      let lo := max s.stamp s.plan.floor
      let skipped := skippedSegments s.store s.stamp new 2000 lo
      (∀ g : Segment, g ∈ skipped ↔ segmentAt s.store g.start = some g ∧ lo < g.stop ∧ s.stamp ≤ g.start ∧
        g.start < s.stamp + 86400 ∧ g.stop ≤ new) ∧
      skipped.Pairwise (fun x y => x.start < y.start) ∧
      (s.sup.reports.length + 1 + skipped.length ≤ 32 →
        ∃ t, exec (.setTime date second) s = .next t ∧ t.stamp = new ∧
          s.sup.reports ++ ⟨new, .timeSet, 0, s.stamp⟩ ::
            skipped.map (fun g => ⟨new, .entryMissed, g.occ.number, g.start⟩) <+: t.sup.reports)))

/-- R5, R6, R9: at the silence timer's expiry the PPS is absent, LOCKED becomes HOLDOVER, a pending set is
lost, and the reports of both are filed while the queue has room. The order of the two reports is DEDUCED (entry
19), and that the event brings its own instant is the model's (entry 2). -/
def Obligations.SilenceEndsThePpsAndLosesThePendingSet : Prop :=
  ∀ (s : State) (due : Nat), s.time.silence = some due → s.sup.reports.length ≤ 30 →
    ∃ t, exec .silenceTimerExpiry s = .next t ∧ t.time.silence = none ∧ t.time.run = 0 ∧
      t.time.lastEdge = none ∧ t.time.pendingSet = none ∧ t.stamp = s.stamp ∧
      t.time.elapsed = s.time.elapsed ∧ t.time.osc = max s.time.osc due ∧
      t.time.quality = (if s.time.quality = .locked then .holdover else s.time.quality) ∧
      t.sup = { s.sup with reports := s.sup.reports ++
        (if s.time.quality = .locked then [⟨s.stamp, .timeHoldover, 0, s.time.lastEdgeStamp⟩] else []) ++
        (if s.time.pendingSet.isSome then [⟨s.stamp, .timeSet, 0, 4294967295⟩] else []) } ∧
      t = { s with time := t.time, sup := t.sup }

/-- R7, R20, R58, R75, R98, R161, R182: the six views are answered with DONE in every state, and READ_ENTRY and
READ_BANK_STATE with what they name; a read changes nothing but the port. The data are those of the model's view
functions, whose layout is DEDUCED or the model's choice where R181 leaves it open (entry 7). -/
def Obligations.ViewsAndReadsChangeNothingButThePort : Prop :=
  ∀ s : State,
    exec .readTime s = .next (onlyAnswers 2 .done (timeBytes s) s) ∧
    exec .readPlan s = .next (onlyAnswers 12 .done (planBytes s) s) ∧
    exec .readMap s = .next
      (onlyAnswers 13 .done ((List.range 32).flatMap (portBytes s) ++ rowBytes s) s) ∧
    exec .readPeers s = .next
      (onlyAnswers 14 .done ((List.range 16).flatMap (peerBytes s) ++ linkBytes s.link) s) ∧
    exec .readProtection s = .next (onlyAnswers 15 .done (protectionBytes s) s) ∧
    exec .readStatus s = .next (onlyAnswers 29 .done (statusBytes s) s) ∧
    (s.sup.nvmPending = none →
      exec .readBankState s = .next (onlyAnswers 9 .done (bankStateBytes s.store) s) ∧
      (∀ n, n > 95 → exec (.readEntry (.active n)) s = .next (onlyAnswers 4 .badArgument [] s) ∧
        exec (.readEntry (.pending n)) s = .next (onlyAnswers 4 .badArgument [] s)) ∧
      (∀ n, n ≤ 95 →
        exec (.readEntry (.active n)) s = .next (onlyAnswers 4 .done (slotBytes (s.store.activeBank.get n)) s) ∧
        exec (.readEntry (.pending n)) s =
          .next (onlyAnswers 4 .done (slotBytes (s.store.pendingBank.get n)) s)) ∧
      (∀ tag, (∀ o ∈ s.store.overrides, o.tag ≠ tag) →
        exec (.readEntry (.override tag)) s = .next (onlyAnswers 4 .notFound [] s)) ∧
      (∀ o ∈ s.store.overrides, (∀ x ∈ s.store.overrides, x.tag = o.tag → x = o) →
        exec (.readEntry (.override o.tag)) s = .next (onlyAnswers 4 .done (overrideBytes o) s)))

/-! ## Chapter 2, the schedule store -/

/-- R18: WRITE_ENTRY by the pending state and its arguments; an accepted write changes one slot of the pending
bank and nothing else. -/
def Obligations.WriteEntryChangesOneSlotOfThePendingBank : Prop :=
  ∀ (s : State) (slot : Nat) (days : Byte) (b : EntryBody), s.sup.nvmPending = none →
    (s.store.pendingState = .checking → exec (.writeEntry slot days b) s = .next (onlyAnswers 3 .busy [] s)) ∧
    (s.store.pendingState = .armed → exec (.writeEntry slot days b) s = .next (onlyAnswers 3 .armed [] s)) ∧
    (s.store.pendingState = .editable →
      (slot > 95 ∨ days = 0 ∨ ¬ fieldsInRange s.cfg b →
        exec (.writeEntry slot days b) s = .next (onlyAnswers 3 .badArgument [] s)) ∧
      (slot ≤ 95 → days ≠ 0 → days.getLsbD 7 = false → fieldsInRange s.cfg b →
        ∃ st, exec (.writeEntry slot days b) s =
            .next { s with store := st, sup := answerTo 3 .done [] s.sup } ∧
          st.pendingBank.get slot =
            some { days := days, body := b, marks := b.ports.map (fun _ => .unchecked) } ∧
          (∀ j, j ≠ slot → st.pendingBank.get j = s.store.pendingBank.get j) ∧
          st.activeBank = s.store.activeBank ∧ st.oneActive = s.store.oneActive ∧
          st.pendingState = .editable ∧ st.switchStamp = s.store.switchStamp ∧
          st.lastCheck = s.store.lastCheck ∧ st.overrides = s.store.overrides ∧
          st.commitTarget = s.store.commitTarget ∧ st.checkEnd = s.store.checkEnd))

/-- R19: ERASE_ENTRY marks one slot or all unused and COPY_ACTIVE copies the active store; both touch nothing but the
pending bank. R21, R25: COMMIT_BANK starts a check that ends within 50 ms, whatever its length, and DISARM_BANK
takes an armed bank back. Each is refused in the other pending states, which are tested before the arguments
(DEDUCED, entry 28). -/
def Obligations.EditsCommitAndDisarmActOnThePendingBank : Prop :=
  (∀ s : State, s.sup.nvmPending = none →
     (s.store.pendingState = .checking → ∀ w,
       exec (.eraseEntry w) s = .next (onlyAnswers 5 .busy [] s) ∧
         exec .copyActive s = .next (onlyAnswers 6 .busy [] s)) ∧
     (s.store.pendingState = .armed → ∀ w,
       exec (.eraseEntry w) s = .next (onlyAnswers 5 .armed [] s) ∧
         exec .copyActive s = .next (onlyAnswers 6 .armed [] s)) ∧
     (s.store.pendingState = .editable →
       (∀ n, n > 95 → exec (.eraseEntry (.slot n)) s = .next (onlyAnswers 5 .badArgument [] s)) ∧
       (∀ n, n ≤ 95 → ∃ st,
         exec (.eraseEntry (.slot n)) s = .next { s with store := st, sup := answerTo 5 .done [] s.sup } ∧
           st.pendingBank.get n = none ∧
           (∀ j, j ≠ n → st.pendingBank.get j = s.store.pendingBank.get j) ∧
           st = s.store.setPending st.pendingBank) ∧
       (∃ st, exec (.eraseEntry .all) s = .next { s with store := st, sup := answerTo 5 .done [] s.sup } ∧
         (∀ j, st.pendingBank.get j = none) ∧ st = s.store.setPending st.pendingBank) ∧
       (∃ st, exec .copyActive s = .next { s with store := st, sup := answerTo 6 .done [] s.sup } ∧
         st.pendingBank = s.store.activeBank ∧ st = s.store.setPending st.pendingBank))) ∧
  (∀ s : State, s.sup.nvmPending = none →
     (s.store.pendingState = .checking → ∀ x,
       exec (.commitBank x) s = .next (onlyAnswers 7 .busy [] s) ∧
         exec .disarmBank s = .next (onlyAnswers 8 .busy [] s)) ∧
     (s.store.pendingState = .armed →
       (∀ x, exec (.commitBank x) s = .next (onlyAnswers 7 .armed [] s)) ∧
       ∃ t, exec .disarmBank s = .next t ∧ sameSetting s t ∧ t.time = s.time ∧
         t.store = { s.store with pendingState := .editable, switchStamp := none, commitTarget := none } ∧
         t.sup.sequence = (s.sup.sequence + 1) % 256 ∧ t.sup.response.result = some .done) ∧
     (s.store.pendingState = .editable →
       exec .disarmBank s = .next (onlyAnswers 8 .wrongState [] s) ∧
       (∀ w, w > 4294967294 → exec (.commitBank (.stamp w)) s = .next (onlyAnswers 7 .badArgument [] s)) ∧
       (∀ x, (∀ w, x = .stamp w → w ≤ 4294967294) → ∃ t ms, ms ≤ 50 ∧ exec (.commitBank x) s = .next t ∧
         t.store = { s.store with pendingState := .checking, commitTarget := some x,
                                  checkEnd := some (s.time.osc + ms) } ∧
         t = { s with store := t.store, free := t.free, sup := answerTo 7 .done [] s.sup })))

/-- R22: the overlap test names the pair with the lowest a and, for that a, the lowest b, and finds none only
when no two used slots share a week minute. -/
def Obligations.OverlapTestNamesTheLowestPair : Prop :=
  ∀ b : Bank, (∀ i e, b.get i = some e → e.body.startMin ≤ 1439 ∧ 1 ≤ e.body.duration ∧
      e.body.duration ≤ 1440) →
    (∀ i j, firstOverlap (usedSlots b) = some (i, j) ↔
      i < j ∧ slotsShare b i j ∧
        ∀ i' j', i' < j' → slotsShare b i' j' → i < i' ∨ (i = i' ∧ j ≤ j')) ∧
    (firstOverlap (usedSlots b) = none ↔ ∀ i j, i < j → ¬ slotsShare b i j)

/-- R23, R24: the end of a check. A check that fails hands the bank back EDITABLE with its result and its
report; one that passes files its report and arms the bank, or, when the target is NOW or already reached, swaps
the roles with the report of the switch, so that the checked bank with its marks is the one in service. -/
def Obligations.CheckEndHandsBackArmsOrSwitches : Prop :=
  ∀ s : State, s.store.pendingState = .checking → s.sup.reports.length < 32 →
    (∀ r subject second, checkOutcome s.cfg s.store.pendingBank = r → r ≠ .accepted →
      (r = .overlap subject second ∨ (r = .noEligiblePort subject ∧ second = 0)) →
      ∃ st, exec .bankCheckEnd s = .next { s with
          store := st,
          sup := { s.sup with reports := s.sup.reports ++
            [⟨s.stamp, .bankCheckDone, subject, checkCode r * 65536 + second⟩] } } ∧
        st.lastCheck = r ∧ st.pendingState = .editable ∧ st.commitTarget = none ∧
        st.activeBank = s.store.activeBank ∧ st.overrides = s.store.overrides ∧
        ∀ i, st.pendingBank.get i = (s.store.pendingBank.get i).map (fun e =>
          { e with marks := e.body.ports.map (fun p =>
              if s.cfg.inBand p e.body.freq then .eligible else .ineligible) })) ∧
    (checkOutcome s.cfg s.store.pendingBank = .accepted →
      let marked (slot : BankSlot) : BankSlot := slot.map (fun e =>
        { e with marks := e.body.ports.map (fun p =>
            if s.cfg.inBand p e.body.freq then .eligible else .ineligible) })
      let passed : Report := ⟨s.stamp, .bankCheckDone, 0, 0⟩
      (∀ w, s.store.commitTarget = some (.stamp w) → (s.time.quality = .unset ∨ s.stamp < w) →
        ∃ t, exec .bankCheckEnd s = .next t ∧ sameSetting s t ∧ t.time = s.time ∧
          t.store.pendingState = .armed ∧ t.store.switchStamp = some w ∧ t.store.lastCheck = .accepted ∧
          t.store.oneActive = s.store.oneActive ∧ t.store.activeBank = s.store.activeBank ∧
          (∀ i, t.store.pendingBank.get i = marked (s.store.pendingBank.get i)) ∧
          t.store.overrides = s.store.overrides ∧ s.sup.reports ++ [passed] <+: t.sup.reports) ∧
      (s.store.commitTarget = some .now ∨
          (∃ w, s.store.commitTarget = some (.stamp w) ∧ s.time.quality ≠ .unset ∧ w ≤ s.stamp) →
        ∃ t, exec .bankCheckEnd s = .next t ∧ sameSetting s t ∧ t.time = s.time ∧
          t.store.pendingState = .editable ∧ t.store.switchStamp = none ∧ t.store.lastCheck = .none ∧
          t.store.oneActive = (!s.store.oneActive) ∧ t.store.pendingBank = s.store.activeBank ∧
          (∀ i, t.store.activeBank.get i = marked (s.store.pendingBank.get i)) ∧
          t.store.overrides = s.store.overrides ∧
          (s.sup.reports.length ≤ 30 → s.sup.reports ++
            [passed, ⟨s.stamp, .bankSwitched, t.store.activeNo, s.stamp⟩] <+: t.sup.reports)))

/-- R26, R27, R28: an armed bank whose stamp is reached switches, unless the time is UNSET; the roles swap, no
entry moves, the former active bank is EDITABLE with no switch stamp and no check result, and BANK_SWITCHED is
filed with the number of the store now active and the stamp of the switch. -/
def Obligations.SwitchSwapsTheRoles : Prop :=
  ∀ (s : State) (w : Nat), s.store.pendingState = .armed → s.store.switchStamp = some w →
    (s.time.quality = .unset ∨ s.stamp < w → exec .switchRoles s = .next s) ∧
    (s.time.quality ≠ .unset → w ≤ s.stamp →
      ∃ t, exec .switchRoles s = .next t ∧ sameSetting s t ∧ samePort s t ∧ t.time = s.time ∧
        t.store.activeBank = s.store.pendingBank ∧ t.store.pendingBank = s.store.activeBank ∧
        t.store = { s.store with oneActive := !s.store.oneActive, pendingState := .editable,
                                 switchStamp := none, commitTarget := none, lastCheck := .none } ∧
        t.store.activeNo = (if s.store.oneActive then 0 else 1) ∧
        (s.sup.reports.length < 32 →
          s.sup.reports ++ [⟨s.stamp, .bankSwitched, t.store.activeNo, s.stamp⟩] <+: t.sup.reports))

/-- R30, R31: PUT_OVERRIDE's tests in their order, and what an accepted one holds: the lowest free tag and its
place by start stamp in the list. -/
def Obligations.PutOverrideIsTestedInOrderAndInserted : Prop :=
  ∀ (s : State) (date : Nat) (b : EntryBody), s.sup.nvmPending = none →
    s.store.overrides.Pairwise (fun x y => x.start < y.start) →
    let start := date * 86400 + b.startMin * 60
    let stop := start + b.duration * 60
    let inRange := fieldsInRange s.cfg b ∧ date ≤ 65535 ∧ stop ≤ 4294967294
    let meets := ∃ o ∈ s.store.overrides, o.start < stop ∧ start < o.stop
    (¬ inRange → exec (.putOverride date b) s = .next (onlyAnswers 10 .badArgument [] s)) ∧
    (inRange → s.time.quality = .unset →
      exec (.putOverride date b) s = .next (onlyAnswers 10 .wrongState [] s)) ∧
    (inRange → s.time.quality ≠ .unset → stop ≤ s.stamp →
      exec (.putOverride date b) s = .next (onlyAnswers 10 .badArgument [] s)) ∧
    (inRange → s.time.quality ≠ .unset → s.stamp < stop → 16 ≤ s.store.overrides.length →
      exec (.putOverride date b) s = .next (onlyAnswers 10 .full [] s)) ∧
    (inRange → s.time.quality ≠ .unset → s.stamp < stop → s.store.overrides.length < 16 → meets →
      exec (.putOverride date b) s = .next (onlyAnswers 10 .overlap [] s)) ∧
    (inRange → s.time.quality ≠ .unset → s.stamp < stop → s.store.overrides.length < 16 → ¬ meets →
      ∃ t o, exec (.putOverride date b) s = .next t ∧ o.date = date ∧ o.body = b ∧
        (∀ x ∈ s.store.overrides, x.tag ≠ o.tag) ∧
        (∀ k, k < o.tag → ∃ x ∈ s.store.overrides, x.tag = k) ∧
        o.marks = b.ports.map (fun p => if s.cfg.inBand p b.freq then .eligible else .ineligible) ∧
        t.store.overrides = s.store.overrides.filter (fun x => decide (x.start < start)) ++
            o :: s.store.overrides.filter (fun x => decide (start ≤ x.start)) ∧
        t.store = { s.store with overrides := t.store.overrides } ∧
        sameSetting s t ∧ t.time = s.time ∧ t.sup.sequence = (s.sup.sequence + 1) % 256 ∧
        t.sup.response = { sequence := (s.sup.sequence + 1) % 256, number := 10, result := some .done,
                           data := byte1 o.tag })

/-- R32, R33, R54: an override leaves the list when its end passes, without a report or a signal, and when it is
dropped by its tag. A drop ends at this instant the current assignment that carries the override, one whose changeover
runs before the span begins too (DESIGN CHOICE, entry 85), and, of an override that is running, any other whose source
does not apply at the instant, in its lead too, but for a held-over one (R55); stated for a store without a further
segment: with one that starts within its lead see entry 75 (DESIGN CHOICE). -/
def Obligations.OverridesLeaveAtTheirEndOrWhenDropped : Prop :=
  ∀ s : State,
    (∃ t, exec .overrideExpiry s = .next t ∧
      t.store.overrides = s.store.overrides.filter (fun o => decide (s.stamp < o.stop)) ∧
      t = { s with store := { s.store with overrides := t.store.overrides } }) ∧
    (s.sup.nvmPending = none → ∀ tag,
      (tag > 15 → exec (.dropOverride tag) s = .next (onlyAnswers 11 .badArgument [] s)) ∧
      (tag ≤ 15 → (∀ o ∈ s.store.overrides, o.tag ≠ tag) →
        exec (.dropOverride tag) s = .next (onlyAnswers 11 .notFound [] s)) ∧
      (tag ≤ 15 → (∃ o ∈ s.store.overrides, o.tag = tag) →
        ∃ t, exec (.dropOverride tag) s = .next t ∧ sameSetting s t ∧ t.time = s.time ∧
          t.store.overrides = s.store.overrides.filter (fun o => decide (o.tag ≠ tag)) ∧
          t.store = { s.store with overrides := t.store.overrides } ∧
          t.sup.sequence = (s.sup.sequence + 1) % 256 ∧ t.sup.response.result = some .done) ∧
      (∀ o c, tag ≤ 15 → s.store.overrides.find? (fun o => decide (o.tag = tag)) = some o →
        s.seq.current = some c → c.source ≠ .manual → s.plan.next = none →
        (c.source = .entry (96 + tag) o.date ∨ (c.heldOver = false ∧ o.start ≤ s.stamp ∧ s.stamp < o.stop)) →
        (∀ x l, nextSegment { s.store with
          overrides := s.store.overrides.filter (fun o => decide (o.tag ≠ tag)) } x l = none) →
        s.seq.state = .guarding ∨ (s.seq.state = .onAir ∧ s.seq.permit = true) →
        ∃ t, exec (.dropOverride tag) s = .next t ∧ t.seq.current = none ∧
          t.plan = { floor := s.stamp, next := none } ∧
          t.seq.state = (if s.seq.state = .onAir then .muting else .guarding)))

/-- R34, R35: the entry that applies at an instant. An override that contains it comes first; else the bank in force at
it answers with an occurrence that contains it, and with none only when no used slot has one. R39: a segment is a
maximal interval over which one occurrence applies, so that overrides cut it and an armed switch stamp ends it; two
banks give two occurrences. The start of a remainder whose override has left the list is that of its occurrence (the
model's, entry 41). R41: the next segment is the one that contains the instant, if its start comes before the limit of
the look-ahead (DEDUCED, entry 68), or else the first that starts after it and before the limit. The premises of these
two are invariants (EveryStepKeepsOverridesApart, EveryStepKeepsTheServiceBankChecked). -/
def Obligations.TheEntryInForceApplies : Prop :=
  (∀ (st : ScheduleStore) (t : Nat),
    (∀ o ∈ st.overrides, o.start ≤ t → t < o.stop →
      (∀ x ∈ st.overrides, x.start ≤ t → t < x.stop → x = o) →
      appliesAt st t = some { number := 96 + o.tag, day := o.date, bank := 2, start := o.start,
                              stop := o.stop, body := o.body }) ∧
    ((∀ o ∈ st.overrides, ¬ (o.start ≤ t ∧ t < o.stop)) →
      let armed := st.pendingState = .armed ∧ ∃ w, st.switchStamp = some w ∧ w ≤ t
      ∀ b, (armed → b = st.pendingBank) → (¬ armed → b = st.activeBank) →
        (∀ i e, b.get i = some e → e.body.startMin ≤ 1439 ∧ e.body.duration ≤ 1440) →
        (∀ o, appliesAt st t = some o → o.start ≤ t ∧ t < o.stop ∧
          ∃ e, b.get o.number = some e ∧ o.body = e.body ∧
            e.days.getLsbD ((o.day + 5) % 7) = true ∧ o.start = o.day * 86400 + e.body.startMin * 60 ∧
            o.stop = o.start + e.body.duration * 60) ∧
        (appliesAt st t = none → ∀ i e day, b.get i = some e →
          e.days.getLsbD ((day + 5) % 7) = true →
            ¬ (day * 86400 + e.body.startMin * 60 ≤ t ∧
              t < day * 86400 + e.body.startMin * 60 + e.body.duration * 60)))) ∧
  (∀ s : State, overridesApart s → serviceChecked s → slotsTimed s →
    let at' := appliesAt s.store
    (∀ t, segmentAt s.store t = none ↔ at' t = none) ∧
    (∀ t g, segmentAt s.store t = some g ↔
      g.start ≤ t ∧ t < g.stop ∧ (∀ u, g.start ≤ u → u < g.stop → at' u = some g.occ) ∧
        (∀ u, u + 1 = g.start → at' u ≠ some g.occ) ∧ at' g.stop ≠ some g.occ) ∧
    (∀ x limit,
      (∀ g, segmentAt s.store x = some g →
        nextSegment s.store x limit = if g.start < limit then some g else none) ∧
      (at' x = none → ∀ g, nextSegment s.store x limit = some g ↔
        segmentAt s.store g.start = some g ∧ x < g.start ∧ g.start < limit ∧
          ∀ u, x ≤ u → u < g.start → at' u = none)))

/-- R31: every step keeps the override list in order and its spans apart. -/
def Obligations.EveryStepKeepsOverridesApart : Prop :=
  ∀ s t : State, overridesApart s → step s = .next t → overridesApart t

/-- R27: every step keeps the bank in service free of overlaps. R18: and every used slot with a start minute and a
duration in their ranges. -/
def Obligations.EveryStepKeepsTheServiceBankChecked : Prop :=
  ∀ s t : State, step s = .next t →
    (serviceChecked s → serviceChecked t) ∧ (slotsTimed s → slotsTimed t)

/-! ## Chapter 3, assignment planning -/

/-- R44: the lead time of each kind and path, in ms and rounded up to whole seconds, with the values for the
configuration defaults. R43, R45 to R48: kind, path, chained, changeover start, claim time and release stamp of a
record as they are worked out at its forming and at each re-planning, whether its claim waits until the bay is idle,
and the missed-segment test on them. R180: beside a manual assignment without an end, or in the interval of R180
(whose record is the model's, entry 58), the record is chained, compared with the frequency that is tuned. That a
claim once deferred waits on after its current assignment has ended is DEDUCED (entry 13). -/
def Obligations.RecordsAreTimedByTheirKindAndLead : Prop :=
  ((∀ (c : Params) (k : Kind) (p : Path), ∃ ms,
     ms = (match k, p with
       | .full, _ => c.tMute + c.tGuard + max (2 * c.tTravel + c.tSettle) c.tTune + 10 * c.tStep
       | .retune, _ => c.tMute + c.tGuard + c.tTune + 10 * c.tStep
       | .first, .retune => c.tGuard + c.tTune + 10 * c.tStep
       | .first, _ => c.tGuard + max (2 * c.tTravel + c.tSettle) c.tTune + 10 * c.tStep
       | .continuation, _ => 0) ∧
     ms ≤ 1000 * leadOf c k p ∧ 1000 * leadOf c k p < ms + 1000) ∧
   leadMs Params.builtIn .full .full = 14700 ∧ leadOf Params.builtIn .full .full = 15 ∧
   leadMs Params.builtIn .retune .retune = 14700 ∧ leadOf Params.builtIn .retune .retune = 15 ∧
   leadMs Params.builtIn .first .full = 14200 ∧ leadOf Params.builtIn .first .full = 15 ∧
   leadMs Params.builtIn .first .retune = 14200 ∧ leadOf Params.builtIn .first .retune = 15) ∧
  (∀ (s : State) (a r : Assignment), s.timed a = r →
     (∀ (c : Current) (e : Nat), s.seq.current = some c → c.source ≠ .manual → c.segEnd = some e →
       let k : Kind :=
         if a.chosen = none ∨ a.chosen ≠ c.port then .full
         else if a.freq = c.freq then .continuation else .retune
       let lead := leadOf s.cfg k (pathOf k)
       (a.segStart ≤ e + lead → r.kind = k ∧ r.path = pathOf k ∧ r.chained = true ∧ r.lead = lead ∧
         r.deferred = false ∧ r.changeoverStart = max (max e (a.segStart - lead)) s.stamp) ∧
       (e + lead < a.segStart → r.kind = .first ∧ r.path = .full ∧ r.chained = false ∧ r.deferred = true ∧
         r.lead = leadOf s.cfg .first .full ∧ r.changeoverStart = max (a.segStart - r.lead) s.stamp)) ∧
     (∀ c : Current, s.seq.current = some c → c.source = .manual → c.segEnd = none ∨ s.manual.atNext = true →
       let k : Kind :=
         if a.chosen = none ∨ a.chosen ≠ c.port then .full
         else if a.freq = s.manual.tuned then .continuation else .retune
       r.kind = k ∧ r.path = pathOf k ∧ r.chained = true ∧ r.deferred = false ∧
         r.lead = leadOf s.cfg k (pathOf k) ∧ r.changeoverStart = max (a.segStart - r.lead) s.stamp) ∧
     (s.seq.current = none → r.kind = .first ∧ r.chained = false ∧
       (r.deferred = true ↔ a.deferred = true ∧ s.seq.state ≠ .idle ∧ s.seq.state ≠ .heldIdle) ∧
       r.path = (if s.seq.state = .heldIdle ∧ a.chosen ≠ none ∧ a.chosen = s.heldPort then .retune else .full) ∧
       r.lead = leadOf s.cfg .first r.path ∧ r.changeoverStart = max (a.segStart - r.lead) s.stamp) ∧
     r.claimTime = max (r.changeoverStart - s.cfg.claimMargin) s.stamp ∧ r.release = a.segEnd ∧
     r.chosen = a.chosen ∧ r.claim = a.claim ∧ r.ports = a.ports ∧
     (∀ e, r.segEnd = some e →
       (s.missed r = true ↔ (e : Int) - s.cfg.minAir < r.changeoverStart + r.lead)))

/-- R41, R42, R46: with no next record held, the bay free to plan and its port settled, the segment next in
turn becomes the next record, unless it is missed. Its port is the first in its list that is open to the scan:
available, or held by this bay and neither suspect, out of band nor flagged (R42), nor, as the model reads it, being
given up (DEDUCED, entry 8). That R42 and not R76 decides for a port held beside a mark of its curtain that R76 counts
is a DESIGN CHOICE (entry 97). A scan that finds none leaves the claim in NONE (DEDUCED, entry 67) and names as wait
port the first port of the list that other bays' HELD marks alone keep blocked, each with a release stamp at or before
the segment start plus the late tolerance (R49). INTERNAL_SECOND does so after each second counted (R41). -/
def Obligations.TheNextSegmentBecomesTheNextRecord : Prop :=
  (∀ s : State, ∃ t, exec .internalSecond s = .next t ∧ t = planNext { s with time := t.time }) ∧
  ∀ (s : State) (g : Segment), s.plan.next = none → s.canPlan = true → s.currentSettled = true →
    (∀ floor, floor = (match s.seq.current with
        | some c => if c.source = .manual then max s.plan.floor (c.segEnd.getD s.stamp) else s.plan.floor
        | none => s.plan.floor) →
      nextSegment s.store (max floor s.stamp) (s.stamp + 86400) = some g) →
    s.missed (s.timed (s.choose (g.record s.cfg))) = false →
    ∃ a, (planNext s).plan.next = some a ∧ a.source = .entry g.occ.number g.occ.day ∧
      a.segStart = g.start ∧ a.segEnd = some g.stop ∧ a.freq = some g.occ.body.freq ∧
      a.power = g.occ.body.power ∧ a.cls = g.occ.body.cls ∧ a.programme = g.occ.body.programme ∧
      a.ports = g.occ.body.ports.map (fun p => (p, false)) ∧
      a.chosen = g.occ.body.ports.find? (fun p =>
        s.scannable p g.occ.body.cls g.start (some g.occ.body.freq)) ∧
      a.keepsPort = (a.chosen.isSome && decide (a.chosen = s.keptPort)) ∧ a.claim = Claim.fresh ∧
      (a.chosen ≠ none → a.waitPort = none) ∧
      (let waited (p : Nat) : Prop := s.portSound p (some g.occ.body.freq) = true ∧
          s.blockers p g.occ.body.cls g.start ≠ [] ∧
          ∀ q ∈ s.blockers p g.occ.body.cls g.start, ∃ o c r, (s.portRec q).mark = .held o c (some r) ∧
            r ≤ g.start + s.cfg.lateTolerance
       a.chosen = none →
        (∀ w, a.waitPort = some w → waited w ∧
          ∃ pre post, g.occ.body.ports = pre ++ w :: post ∧ ∀ p ∈ pre, ¬ waited p) ∧
        (a.waitPort = none → ∀ p ∈ g.occ.body.ports, ¬ waited p)) ∧
      a.giveUp = g.stop - s.cfg.minAir ∧
      sameBay s (planNext s) ∧ (planNext s).link = s.link ∧ (planNext s).hall = s.hall

/-- R48: at its claim time a record that does not hold its port queues the INTENT with its class and, as start stamp,
its segment start; one that does queues the refreshed HOLD, with the class of the assignment that holds the port, and
the record's own release stamp. The assignment that holds the port is the current one, or else the record itself where
its claim of the port is WON; where none holds it the class is that of its mark (DEDUCED, entry 49).
Before that instant the command changes nothing (the model's, entry 2). -/
def Obligations.ClaimTimeQueuesTheIntent : Prop :=
  ∀ s : State,
    (s.claimDue = false → exec .claimTime s = .next s) ∧
    (∀ a p, s.claimDue = true → s.plan.next = some a → a.chosen = some p → a.keepsPort = false →
      s.ownHeld p = false → s.mayOffer = true → s.link.queue.length < 8 →
      ∃ t, exec .claimTime s = .next t ∧
        t.plan.next = some { a with claim := { a.claim.rest with state := .queued } } ∧
        t.link.queue = s.link.queue ++ [{ frame := .intent p a.cls a.segStart, parkedUntil := none,
                                          withdrawn := false, refresh := false }] ∧
        t = { s with plan := t.plan, link := t.link }) ∧
    (∀ a p, s.claimDue = true → s.plan.next = some a → a.chosen = some p → s.ownHeld p = true →
      s.mayOffer = true → s.link.queue.length < 8 →
      let own := if a.claim.state = .won then a.cls else (s.portRec p).mark.cls
      let cls := match s.seq.current with
        | some c => if c.port = some p then c.cls else own
        | none => own
      ∃ t, exec .claimTime s = .next t ∧
        t.plan.next = some { a with claim := { a.claim.rest with refreshAsked := true } } ∧
        t.link.queue = s.link.queue ++ [{ frame := .hold p cls (stampCode a.release), parkedUntil := none,
                                          withdrawn := false, refresh := true, asked := true }] ∧
        t = { s with plan := t.plan, link := t.link })

/-- R49: the NO_PORT retry clears every DROPPED mark and scans from the top, and the scan 1 s after a DROPPED outcome
keeps them; a port found is claimed by its INTENT, and a record without one waits or stands in NO_PORT with its retry 15
s ahead. The same holds of a current assignment that waits for its port in REPOSITION. R51: a next record whose port is
not settled is given up at its give-up point with ENTRY_MISSED, and the planning floor becomes its segment end. A
current assignment whose port is not settled is abandoned there with ENTRY_MISSED (R135): in REPOSITION with nothing
closed its INTENT is withdrawn, the bay enters IDLE and the floor becomes its segment end, and in LOCKED it ends in
place. That this abandonment lowers the tune request and leaves TUNE_IDLE in every state, LOCKED and MATRIX_FAULT
included, is DEDUCED (entry 32). One whose port is settled is not given up. An instant that is not reached changes
nothing (the model's, entry 2). -/
def Obligations.ScansAreRepeatedAndUnsettledRecordsGivenUp : Prop :=
  (∀ s : State,
     (s.retriesDue = [] → exec .noPortRetry s = .next s) ∧
     (s.rescansDue = [] → exec .droppedRescan s = .next s) ∧
     (∀ (a : Assignment) (c : Instr), s.seq.state = .idle → s.seq.current = none → s.plan.next = some a →
       ((c = .noPortRetry ∧ a.claim.state = .noPort ∧ s.reached a.claim.retryAt = true) ∨
         (c = .droppedRescan ∧ a.claim.state = .unclaimed ∧ s.reached a.claim.rescanAt = true)) →
       ∃ t b, exec c s = .next t ∧ t.plan.next = some b ∧ sameBay s t ∧
         b.ports = (if c = .noPortRetry then a.ports.map (fun q => (q.1, false)) else a.ports) ∧
         b.chosen = (b.ports.find? (fun q =>
           !q.2 && s.scannable q.1 a.cls a.segStart a.freq)).map Prod.fst ∧
         (∀ p, b.chosen = some p → s.ownHeld p = false → s.mayOffer = true → s.link.queue.length < 8 →
           b.claim.state = .queued ∧
           t.link.queue = s.link.queue ++ [{ frame := .intent p a.cls a.segStart, parkedUntil := none,
                                             withdrawn := false, refresh := false }]) ∧
         (b.chosen = none →
           (b.claim.state = .waitRelease ∧ b.waitPort ≠ none) ∨
           (b.claim.state = .noPort ∧ b.waitPort = none ∧ b.claim.retryAt = some (s.time.elapsed + 15)))) ∧
     (∀ (c : Current) (x : Instr), s.seq.state = .reposition → s.row.motion = .still → s.row.waiting = none →
       s.row.recoveryOf = none → s.closedPorts = [] → s.plan.next = none → s.seq.current = some c →
       c.source ≠ .manual →
       ((x = .noPortRetry ∧ c.claim.state = .noPort ∧ s.reached c.claim.retryAt = true) ∨
         (x = .droppedRescan ∧ c.claim.state = .unclaimed ∧ s.reached c.claim.rescanAt = true)) →
       ∃ t d, exec x s = .next t ∧ t.seq.current = some d ∧ t.seq.rowSub = .waitPort ∧ sameBay s t ∧
         t.plan = s.plan ∧ d.port = c.port ∧
         d.ports = (if x = .noPortRetry then c.ports.map (fun q => (q.1, false)) else c.ports) ∧
         d.chosen = (d.ports.find? (fun q =>
           !q.2 && s.scannable q.1 c.cls c.segStart c.freq)).map Prod.fst ∧
         (∀ p, d.chosen = some p → s.ownHeld p = false → s.mayOffer = true → s.link.queue.length < 8 →
           d.claim.state = .queued ∧ ∃ e, t.link.queue = s.link.queue ++ [e] ∧
             e.frame = .intent p c.cls c.segStart ∧ e.parkedUntil = none) ∧
         (d.chosen = none → d.claim.state = .waitRelease ∨ d.claim.state = .noPort))) ∧
  (∀ (s : State) (a : Assignment) (e : Nat), s.seq.current = none → s.plan.next = some a →
     a.segEnd = some e →
     (s.stamp < a.giveUp → exec .giveUpPoint s = .next s) ∧
     (a.giveUp ≤ s.stamp → a.claim.state ≠ .won → s.sup.reports.length < 32 →
       nextSegment s.store (max e s.stamp) (s.stamp + 86400) = none →
       ∃ t, exec .giveUpPoint s = .next t ∧ t.plan = { floor := e, next := none } ∧
         t.sup = { s.sup with reports := s.sup.reports ++
           [⟨s.stamp, .entryMissed, sourceCode a.source, a.segStart⟩] } ∧
         sameBay s t ∧ t.seq = s.seq)) ∧
  (∀ (s : State) (c : Current) (e : Nat), s.seq.current = some c → c.source ≠ .manual → c.segEnd = some e →
     (s.stamp < c.giveUp ∨ c.claim.state = .won → s.plan.next = none → exec .giveUpPoint s = .next s) ∧
     (c.giveUp ≤ s.stamp → c.claim.state ≠ .won → s.sup.reports.length < 32 →
       ∃ t, exec .giveUpPoint s = .next t ∧ sameBase s t ∧ t.seq.current = none ∧
         t.seq.tuneRequest = false ∧ t.seq.tuneSub = .idle ∧
         (s.seq.state ≠ .reposition → t.row = { s.row with waiting := none }) ∧
         s.sup.reports ++ [⟨s.stamp, .entryMissed, sourceCode c.source, c.segStart⟩] <+: t.sup.reports ∧
         (s.seq.state = .locked → t.seq.state = .locked) ∧
         (s.seq.state = .reposition → rowQuiet s → s.closedPorts = [] → s.plan.next = none → s.plan.floor ≤ e →
           nextSegment s.store (max e s.stamp) (s.stamp + 86400) = none →
           t.seq.state = .idle ∧ t.plan = { floor := e, next := none } ∧ t.row = s.row ∧
             (∀ p x, c.chosen = some p → c.claim.state = .queued → s.link.engine = .idle →
               s.link.queue = [x] → x.frame = .intent p c.cls c.segStart → x.refresh = false →
               x.withdrawn = false → t.link.queue = []))))

/-! ## Chapter 4, the hall bus link -/

/-- Section 4.2, R62 to R64: a receiver takes exactly the bytes of a frame whose sender and fields lie within
the body table, its length byte and its check included, and reads back the frame that was sent. R59: it reads them
bit by bit, whatever follows the check; a start bit read recessive or a stop bit read dominant is a framing error. -/
def Obligations.ReceiversTakeExactlyTheSoundFrames : Prop :=
  (∀ (bytes : List Byte) (sender : Nat) (f : Frame),
    receive bytes = .sound sender f ↔ deliverable sender f = true ∧ bytes = frameBytes sender f) ∧
  (∀ (sender : Nat) (f : Frame) (after : List Bool), deliverable sender f = true →
    receiveBits ((frameBytes sender f).flatMap byteBits ++ after) = .sound sender f) ∧
  (∀ (x : Byte) (after : List Bool), readByte (byteBits x ++ after) = some (x, after)) ∧
  (∀ after, readByte (true :: after) = none ∧ receiveBits (true :: after) = .breakOff) ∧
  (∀ data after : List Bool, data.length = 8 → readByte (false :: data ++ false :: after) = none)

/-- R68: what an offer does to the queue, and whether it is TAKEN. -/
def Obligations.OffersJoinTheQueueByTheirKind : Prop :=
  ∀ (l : Link) (f : Frame) (refresh : Bool),
    let e : TxEntry := { frame := f, parkedUntil := none, withdrawn := false, refresh := refresh }
    let r := l.offer f refresh
    ((∀ b, f ≠ .presence b) →
      (l.queue.length < 8 → r = ({ l with queue := l.queue ++ [e] }, true)) ∧
      (8 ≤ l.queue.length →
        (∀ x ∈ l.queue, ∀ b, x.frame = .presence b → l.queue.head? = some x ∧ l.engine.attempting = true) →
        r = (l, false)) ∧
      (∀ before p after b, l.queue.length = 8 → l.queue = before ++ p :: after → p.frame = .presence b →
        (∀ x ∈ before, ∀ c, x.frame ≠ .presence c) → (before = [] → l.engine.attempting = false) →
        r = ({ l with queue := before ++ after ++ [e],
                      resend := if before = [] then 0 else l.resend }, true))) ∧
    (∀ b, f = .presence b →
      ((∀ x ∈ l.queue, ∀ c, x.frame ≠ .presence c) →
        r = (if l.queue.length < 8 then { l with queue := l.queue ++ [e] } else l, true)) ∧
      (∀ before p after c, l.queue = before ++ p :: after → p.frame = .presence c →
        (∀ x ∈ before ++ after, ∀ d, x.frame ≠ .presence d) →
        let both : PresenceBody := { c with rollCall := c.rollCall || b.rollCall,
                                            restarted := c.restarted || b.restarted }
        let joined : TxEntry := { p with frame := .presence both }
        r = ({ l with queue := before ++ joined :: after }, true)))

/-- R65, R67, R69, R70, R72: a spoiled attempt counts one spoil of the oldest entry; the eighth drops it: a HOLD,
RELEASE, SUSPECT or CLEAR is parked for a second and the other kinds leave, the drop count rises and bus fault is
entered with its report. R71: an expiry of the blocked timer counts one spoil and starts it again. R61, R70: a
withdrawal leaves the entry and its count, or removes an entry marked withdrawn without a drop, which is then
answered REMOVED. That this answer is kept until the next withdrawal is the model's choice (DESIGN CHOICE, entry 44),
and so is that the line engine is shown IDLE after an attempt spoiled in the tail guard (DESIGN CHOICE, entry 51). That
an event of a timer that is stopped, or of an attempt that is not made, changes nothing is the model's (entry 2). -/
def Obligations.SpoilsCountUpToTheDropOfTheOldestEntry : Prop :=
  (∀ (s : State) (tail : Bool) (e : TxEntry) (rest : List TxEntry),
     (s.link.engine.attempting = false → exec (.attemptSpoiled tail) s = .next s) ∧
     (s.link.engine.attempting = true → s.link.queue = e :: rest →
       ∃ t, exec (.attemptSpoiled tail) s = .next t ∧ sameBay s t ∧ t.link.attempt = none ∧
         t.link.engine = (if tail then .idle else .spoiling) ∧
         (e.withdrawn = true → t.link.queue = rest ∧ t.link.resend = 0 ∧ t.link.drops = s.link.drops ∧
           t.link.answer = some .removed ∧ t.link.busFault = s.link.busFault ∧ t = { s with link := t.link }) ∧
         (e.withdrawn = false → s.link.resend < 7 → t.link.queue = e :: rest ∧
           t.link.resend = s.link.resend + 1 ∧ t.link.drops = s.link.drops ∧
           t.link.busFault = s.link.busFault ∧ t = { s with link := t.link }) ∧
         (e.withdrawn = false → 7 ≤ s.link.resend →
           t.link.queue = (if parks e.frame then { e with parkedUntil := some (s.time.elapsed + 1) } :: rest
             else rest) ∧
           t.link.resend = 0 ∧ t.link.drops = min 65535 (s.link.drops + 1) ∧ t.link.busFault = true ∧
           ((∀ p c x, e.frame ≠ .intent p c x) → s.sup.reports.length < 32 →
             t.sup.reports = s.sup.reports ++ (if s.link.busFault then [] else
               [⟨s.stamp, .busFault, (framePort e.frame).getD s.bay,
                 frameKindCode e.frame * 65536 + t.link.drops⟩]) ∧
             t.sup.sticky.busFaultSeen = (s.sup.sticky.busFaultSeen || !s.link.busFault) ∧
             t = { s with link := t.link, sup := t.sup })))) ∧
  (∀ s : State,
     (s.link.blocked = none → exec .blockedTimerExpiry s = .next s) ∧
     (∀ due e rest, s.link.blocked = some due → s.link.queue = e :: rest → s.link.engine.attempting = false →
       e.parkedUntil = none → s.link.lineIdle = false → e.withdrawn = false → s.link.resend < 7 →
       ∃ t, exec .blockedTimerExpiry s = .next t ∧ t.link.queue = s.link.queue ∧
         t.link.resend = s.link.resend + 1 ∧ t.link.blocked = some (max s.time.osc due + 50) ∧
         t = { s with time := { s.time with osc := max s.time.osc due }, link := t.link }) ∧
     (s.link.engine.attempting = false → exec .contentionWithdrawal s = .next s) ∧
     (∀ e rest, s.link.engine.attempting = true → s.link.queue = e :: rest →
       ∃ t, exec .contentionWithdrawal s = .next t ∧ t = { s with link := t.link } ∧
         t.link.engine = .receiving ∧ t.link.attempt = none ∧ t.link.drops = s.link.drops ∧
         (e.withdrawn = false → t.link.queue = s.link.queue ∧ t.link.resend = s.link.resend) ∧
         (e.withdrawn = true → t.link.queue = rest ∧ t.link.resend = 0 ∧ t.link.answer = some .removed)))

/-- R60, R67, R69: on an idle line the oldest entry contends if it is READY, a PRESENCE with its body as it
then stands; a parked entry is READY again at its count; a refused frame is offered again at its own. A frame
that no station delivers changes the line engine alone, and nothing in SYNC: the receiver's own reading of its bits
tells a fault before the tail guard, which starts a spoil run, and a frame without a fault is discarded when the tail
guard is read dominant and taken when it is recessive. That the line engine is shown IDLE after such a discard is the
model's choice (DESIGN CHOICE, entry 51). The row has no command for another's start bit, so the
frame's own event takes the link through RECEIVING (entry 40); what LINE_IDLE does in an attempt and beside no READY
entry is the model's (entry 24), and so is a count not yet reached (entry 2). -/
def Obligations.TheOldestReadyEntryContendsOnAnIdleLine : Prop :=
  ∀ s : State,
    (s.link.engine.attempting = true → exec .lineIdle s = .next s) ∧
    (s.link.engine.attempting = false →
      ∃ t, exec .lineIdle s = .next t ∧ t = { s with link := t.link } ∧ t.link.queue = s.link.queue ∧
        t.link.resend = s.link.resend ∧ t.link.blocked = none ∧
        (match s.link.queue with
         | [] => t.link.engine = .idle ∧ t.link.lineIdle = true
         | e :: _ =>
           if e.parkedUntil = none then t.link.engine = .contending ∧ t.link.attempt = some (s.sentFrame e)
           else t.link.engine = .idle ∧ t.link.lineIdle = true)) ∧
    (∃ t, exec .parkedEntryReady s = .next t ∧ t = { s with link := t.link } ∧
      t.link.queue = s.link.queue.map (fun e =>
        { e with parkedUntil := e.parkedUntil.filter (fun c => decide (s.time.elapsed < c)) })) ∧
    (∀ r, s.hall.refused = [r] → s.time.elapsed < r.due →
      ∃ t, exec .refusedFrameReoffer s = .next t ∧ t = s) ∧
    (∀ r, s.hall.refused = [r] → r.due ≤ s.time.elapsed → r.refresh = false → (∀ b, r.frame ≠ .presence b) →
      s.mayOffer = true → s.link.queue.length < 8 →
      ∃ t, exec .refusedFrameReoffer s = .next t ∧ t.hall = { s.hall with refused := [] } ∧
        t.link.queue = s.link.queue ++ [{ frame := r.frame, parkedUntil := none, withdrawn := false,
                                          refresh := false, asked := r.asked }] ∧
        t = { s with hall := t.hall, link := t.link }) ∧
    (∀ bits guardDominant,
      (s.link.engine = .sync → exec (.frameSpoiled bits guardDominant) s = .next s) ∧
      (∀ b f, s.link.engine ≠ .sync → receiveBits bits = .sound b f → guardDominant = false →
        exec (.frameSpoiled bits guardDominant) s = .next (takeFrame b f s)) ∧
      (s.link.engine ≠ .sync → (guardDominant = true ∨ ∀ b f, receiveBits bits ≠ .sound b f) →
        (∀ e rest, s.link.engine.attempting = true → s.link.queue = e :: rest → e.withdrawn = false) →
        ∃ t, exec (.frameSpoiled bits guardDominant) s = .next t ∧ t = { s with link := t.link } ∧
          t.link.queue = s.link.queue ∧ (s.link.queue ≠ [] → t.link.resend = s.link.resend) ∧
          t.link.lineIdle = false ∧ t.link.drops = s.link.drops ∧
          t.link.engine = (if receiveBits bits = .breakOff then .spoiling else .idle)))

/-- R68: every step keeps the transmit queue at 8 entries or fewer. -/
def Obligations.EveryStepKeepsTheTransmitQueueWithinEight : Prop :=
  ∀ s t : State, queueFits s → step s = .next t → queueFits t

/-! ## Chapter 5, port claims and the occupancy map -/

/-- R76, R77: the rank tuples (class, start stamp, bay) are strictly ordered, and two intents of different bays never
tie; a port is available unless one of the conditions of R76 holds or it is being given up (the model's reading,
DEDUCED, entry 8). R42: it is open to a scan when it is available, or when this bay holds it and it is neither suspect,
out of band, flagged nor being given up; that no mark of its curtain keeps a held port off, where R76 counts one, is a
DESIGN CHOICE (entry 97). R76: for a maintenance claim, of class 0, the suspect mark and the marks of the curtain
count in the same way, and band, defect flags and a port being given up do not. -/
def Obligations.RankAndAvailabilityAreThoseOfTheMap : Prop :=
  (∀ c1 s1 b1 c2 s2 b2 : Nat,
    (rankBetter c1 s1 b1 c2 s2 b2 = true ↔
      c1 < c2 ∨ (c1 = c2 ∧ (s1 < s2 ∨ (s1 = s2 ∧ b1 < b2)))) ∧
    ¬ (rankBetter c1 s1 b1 c2 s2 b2 = true ∧ rankBetter c2 s2 b2 c1 s1 b1 = true) ∧
    (b1 ≠ b2 → rankBetter c1 s1 b1 c2 s2 b2 = true ∨ rankBetter c2 s2 b2 c1 s1 b1 = true)) ∧
  (∀ (s : State) (p cls start : Nat) (freq : Option Nat),
    s.available p cls start freq = true ↔
      (s.portRec p).suspect = none ∧ (∀ f, freq = some f → s.cfg.inBand p f = true) ∧
      (s.point p).defect = none ∧ p ∉ s.hall.yielding ∧
      ∀ q, q < 32 → s.cfg.sameCurtain p q = true →
        (match (s.portRec q).mark with
         | .free => True
         | .intended o c st _ => o = s.bay ∨ rankBetter c st o cls start s.bay = false
         | .held o _ _ => o = s.bay
         | .maint o _ _ => o = s.bay ∧ q = p)) ∧
  (∀ (s : State) (p cls start : Nat) (freq : Option Nat),
    s.scannable p cls start freq = true ↔
      s.available p cls start freq = true ∨
        (s.ownHeld p = true ∧ (s.portRec p).suspect = none ∧ (∀ f, freq = some f → s.cfg.inBand p f = true) ∧
          (s.point p).defect = none ∧ p ∉ s.hall.yielding)) ∧
  (∀ (s : State) (p start : Nat),
    s.maintAvailable p start = true ↔
      (s.portRec p).suspect = none ∧
      ∀ q, q < 32 → s.cfg.sameCurtain p q = true →
        (match (s.portRec q).mark with
         | .free => True
         | .intended o c st _ => o = s.bay ∨ rankBetter c st o 0 start s.bay = false
         | .held o _ _ => o = s.bay
         | .maint o _ _ => o = s.bay ∧ q = p))

/-- R80, R86: an INTENT taken from the line is entered on a FREE port, on the sender's own mark and over an
intent of worse rank, to lapse 3 s on; every other record stays. On a curtain this bay holds it draws an OBJECT with
the port held, the intent's own port before any other, its release stamp and the reason, while no claim of this bay
is under way. A mark whose lapse count is reached becomes FREE. -/
def Obligations.IntentsAreEnteredByRankAndLapse : Prop :=
  ∀ s : State,
    (∀ b p cls start, deliverable b (.intent p cls start) = true → s.link.engine ≠ .sync →
      s.isEcho b (.intent p cls start) = false →
      ∃ t, exec (.intentReceived b p cls start) s = .next t ∧ sameBase s t ∧
        (∀ q, q ≠ p → t.portRec q = s.portRec q) ∧
        (t.portRec p).mark =
          (match (s.portRec p).mark with
           | .free => .intended b cls start (s.time.elapsed + 3)
           | .intended o c st l =>
             if o = b ∨ rankBetter cls start b c st o = true then .intended b cls start (s.time.elapsed + 3)
             else .intended o c st l
           | m => m) ∧
        (t.portRec p).suspect = (s.portRec p).suspect) ∧
    (∀ b p cls start h, deliverable b (.intent p cls start) = true → s.link.engine ≠ .sync →
      s.isEcho b (.intent p cls start) = false → s.ownTaken h = true → s.cfg.sameCurtain p h = true → h < 32 →
      (h = p ∨ (s.ownTaken p = false ∧ ∀ q, q < h → s.cfg.sameCurtain p q = true → s.ownTaken q = false)) →
      s.seq.state ≠ .reposition → s.plan.next = none → s.hall.manualClaim = none → s.hall.conflicts = [] →
      (∀ c, s.seq.current = some c → c.claim.state = .won) →
      (∀ e ∈ s.hall.maint, e.state = .held ∧ e.claim.state = .won) →
      s.mayOffer = true → s.link.queue.length < 8 → s.link.engine.attempting = false →
      ∃ t, exec (.intentReceived b p cls start) s = .next t ∧ sameBay s t ∧
        t.link.queue = s.link.queue ++
          [{ frame := .object p h (if (s.portRec h).mark.maintBy s.bay then 1 else 0)
               (stampCode (s.portRec h).mark.release),
             parkedUntil := none, withdrawn := false, refresh := false }]) ∧
    (∃ t, exec .intentLapse s = .next t ∧ sameBase s t ∧
      ∀ q, q < 32 → (t.portRec q).mark =
        (match (s.portRec q).mark with
         | .intended o c st l => if l ≤ s.time.elapsed then .free else .intended o c st l
         | m => m))

/-- R81 to R83, R102: a HOLD or an OBJECT taken from the line enters the sender's hold, unless another bay holds
the port, and frees the intents of other bays on its curtain; a RELEASE frees the mark of the bay it names,
but a forced release leaves this bay's own hold in place, UNCONFIRMED. No suspect field changes. -/
def Obligations.HoldsAndReleasesChangeTheMap : Prop :=
  ∀ (s : State) (b : Nat), s.link.engine ≠ .sync →
    (∀ p cls r, deliverable b (.hold p cls r) = true → s.isEcho b (.hold p cls r) = false →
      ∃ t, exec (.holdReceived b p cls r) s = .next t ∧ sameBase s t ∧
        ∀ q, q < 32 → (t.portRec q).suspect = (s.portRec q).suspect ∧ (t.portRec q).mark =
          (if q = p ∧ ¬ ((s.portRec p).mark.taken = true ∧ (s.portRec p).mark.takenBy b = false) then
            (if cls = 0 then .maint b 0 (stampOf r) else .held b cls (stampOf r))
           else match (s.portRec q).mark with
             | .intended o c st l =>
               if o ≠ b ∧ s.cfg.sameCurtain p q = true then .free else .intended o c st l
             | m => m)) ∧
    (∀ p h reason r, deliverable b (.object p h reason r) = true →
      s.isEcho b (.object p h reason r) = false →
      ∃ t, exec (.objectReceived b p h reason r) s = .next t ∧ sameBase s t ∧
        ∀ q, q < 32 → (t.portRec q).suspect = (s.portRec q).suspect ∧ (t.portRec q).mark =
          (if q = h ∧ ¬ ((s.portRec h).mark.taken = true ∧ (s.portRec h).mark.takenBy b = false) then
            (let cls := if (s.portRec h).mark.takenBy b then (s.portRec h).mark.cls
                        else if reason = 0 then 3 else 0
             if reason = 0 then .held b cls (stampOf r) else .maint b cls (stampOf r))
           else match (s.portRec q).mark with
             | .intended o c st l =>
               if o ≠ b ∧ s.cfg.sameCurtain h q = true then .free else .intended o c st l
             | m => m)) ∧
    (∀ p f, deliverable b (.release p f) = true → s.isEcho b (.release p f) = false →
      ∃ t, exec (.releaseReceived b p f) s = .next t ∧ sameBase s t ∧
        (∀ q, (t.portRec q).suspect = (s.portRec q).suspect ∧ (q ≠ p → t.portRec q = s.portRec q)) ∧
        (if f = s.bay ∧ s.ownTaken p = true then
          (t.portRec p).mark = (s.portRec p).mark ∧ (t.portRec p).standing = some .unconfirmed
         else (t.portRec p).mark =
          (if (s.portRec p).mark.owner = some f then .free else (s.portRec p).mark)))

/-- R84, R85, R98 to R100: suspects, the peer table and PRESENCE. A PRESENCE sets its sender's record and
mismatch flag, enters the held port, the maintenance ports and the suspects it states, leaves a port that another bay
has taken as it is, and frees every mark of its sender that it no longer states; a peer unheard for 7 s becomes
SILENT; the bay offers its own PRESENCE 2 s after the last, and before that the event changes nothing (the model's,
entry 2). -/
def Obligations.SuspectsAndPeersFollowTheirFrames : Prop :=
  ∀ s : State,
    (∀ b p k, s.link.engine ≠ .sync → deliverable b (.suspect p k) = true →
      s.isEcho b (.suspect p k) = false →
      ∃ t, exec (.suspectReceived b p k) s = .next t ∧ sameBase s t ∧
        t.portRec p = { s.portRec p with suspect := some (b, k) } ∧
        ∀ q, q ≠ p → t.portRec q = s.portRec q) ∧
    (∀ b p, s.link.engine ≠ .sync → deliverable b (.clear p) = true → s.isEcho b (.clear p) = false →
      ∃ t, exec (.clearReceived b p) s = .next t ∧ sameBase s t ∧
        t.portRec p = { s.portRec p with suspect := none } ∧ ∀ q, q ≠ p → t.portRec q = s.portRec q) ∧
    (∀ b x, s.link.engine ≠ .sync → deliverable b (.presence x) = true →
      s.isEcho b (.presence x) = false → b ≠ s.bay →
      ∃ t, exec (.presenceReceived b x) s = .next t ∧ sameBase s t ∧
        t.hall.peers.get b = { presence := .present, lastFrame := s.time.elapsed, body := some x,
                               mismatch := decide (x.signature ≠ s.cfg.signature) } ∧
        (∀ o, o ≠ b → t.hall.peers.get o = s.hall.peers.get o) ∧
        (∀ q, q < 32 → (s.portRec q).mark.takenBy b = true → q ≠ x.held → q ∉ x.maint →
          (t.portRec q).mark = .free) ∧
        (x.held ≤ 31 → x.held ∉ x.maint →
          ((s.portRec x.held).mark.taken = false ∨ (s.portRec x.held).mark.takenBy b = true) →
          ((s.portRec x.held).mark.heldBy b = true → (s.portRec x.held).mark.cls ≠ 0) →
          (t.portRec x.held).mark = .held b
            (if (s.portRec x.held).mark.heldBy b then (s.portRec x.held).mark.cls else 3)
            (stampOf x.release)) ∧
        (∀ q ∈ x.maint, q ≠ x.held → (s.portRec q).mark.taken = false → (t.portRec q).mark = .maint b 0 none) ∧
        (∀ q, q < 32 → (s.portRec q).mark.taken = true → (s.portRec q).mark.takenBy b = false →
          (t.portRec q).mark = (s.portRec q).mark) ∧
        (∀ q k, (q, k) ∈ x.suspects → (∀ j, (q, j) ∈ x.suspects → j = k) →
          (t.portRec q).suspect = some (b, k)) ∧
        (∀ q, (∀ k, (q, k) ∉ x.suspects) → (t.portRec q).suspect = (s.portRec q).suspect)) ∧
    (∃ t, exec .peerSilence s = .next t ∧
      (∀ b, b < 16 → t.hall.peers.get b =
        (if (s.hall.peers.get b).presence = .present ∧ (s.hall.peers.get b).lastFrame + 7 ≤ s.time.elapsed then
          { s.hall.peers.get b with presence := .silent }
         else s.hall.peers.get b)) ∧
      t = { s with hall := { s.hall with peers := t.hall.peers }, sup := t.sup } ∧ samePort s t) ∧
    (s.presenceDue = false → exec .presenceInterval s = .next s) ∧
    (s.presenceDue = true → s.link.queue = [] →
      ∃ t x, exec .presenceInterval s = .next t ∧ x.rollCall = false ∧ x.restarted = false ∧
        t.hall = { s.hall with lastPresence := s.time.elapsed } ∧
        t.link.queue = [{ frame := .presence x, parkedUntil := none, withdrawn := false,
                          refresh := false }] ∧
        t = { s with hall := t.hall, link := t.link })

/-- R89, R90: an objection window that ends without a loss offers the HOLD; when that HOLD's echo leaves the port this
bay's and no other bay holds its curtain, the claim is WON and the mark CONFIRMED, and otherwise the claim is lost.
R88: inside the window the claim is lost, with CLAIM_LOST, its cause and the bay, by a HOLD on its curtain, by a
better INTENT on it, by a SUSPECT on its port and by an OBJECT to it; the port is then marked DROPPED in the scan.
That a HOLD beside a better INTENT is named HELD is the model's choice (DESIGN CHOICE, entry 47), that the CLAIM_LOST
of a SUSPECT names the reporter is DEDUCED (entry 33), and so is how an echo is told from another's frame (entry 25);
that the event brings its own instant is the model's (entry 2). WON is answered at each owner with CLAIM_WON: a
record, or a current assignment, which takes the port and in REPOSITION goes on to its CLOSE (R126), has its claim
settled; a maintenance hold is HELD by a MAINT mark (R96); and a manual claim sets the port setting and the manual
assignment's port and starts its path by the state, but in MATRIX_FAULT, where the port is released (R175). -/
def Obligations.AClaimIsWonByItsHoldEcho : Prop :=
  (∀ (s : State) (c : Current) (p r : Nat), s.seq.current = some c → c.source ≠ .manual → c.chosen = some p →
    holdSent c.claim → 1 ≤ c.cls → holdEcho p c.cls r s → s.plan.next = none → s.hall.manualClaim = none →
    s.hall.maint = [] →
    let won (t : State) := exec (.holdReceived s.bay p c.cls r) s = .next t ∧
      (t.portRec p).mark = .held s.bay c.cls (stampOf r) ∧ (t.portRec p).standing = some .confirmed ∧
      s.sup.reports ++ [⟨s.stamp, .claimWon, p, c.cls * 256 + sourceCode c.source⟩] <+: t.sup.reports ∧
      ∃ d, t.seq.current = some d ∧ d.source = c.source ∧ d.segStart = c.segStart ∧ d.port = some p ∧
        d.claim = { c.claim.rest with state := .won }
    (s.seq.state ≠ .reposition → ∃ t, won t ∧ t.seq.state = s.seq.state ∧ t.row = s.row) ∧
    (s.seq.state = .reposition → rowQuiet s → s.rowFree = true → (s.point p).defect = none →
      (∀ q, q < 32 → (s.point q).reading = .atOpen) →
      ∃ t, won t ∧ t.seq.state = .reposition ∧ t.seq.rowSub = .closing ∧ t.row.motion = .closing p ∧
        t.row.travelTimer = some (s.time.osc + s.cfg.tTravel))) ∧
  (∀ (s : State) (m : MaintEntry) (r : Nat), s.hall.maint = [m] → m.state = .claiming → m.releasing = false →
    holdSent m.claim → holdEcho m.port 0 r s → s.seq.current = none → s.plan.next = none →
    s.hall.manualClaim = none → s.seq.state = .idle →
    ∃ t, exec (.holdReceived s.bay m.port 0 r) s = .next t ∧ sameBay s t ∧ t.seq = s.seq ∧ t.plan = s.plan ∧
      t.hall.maint = [{ m with state := .held, claim := { m.claim.rest with state := .won } }] ∧
      (t.portRec m.port).mark = .maint s.bay 0 (stampOf r) ∧
      (t.portRec m.port).standing = some .confirmed ∧
      t.sup.reports = s.sup.reports ++ [⟨s.stamp, .claimWon, m.port, 255⟩]) ∧
  (∀ (s : State) (m : ManualClaim) (r : Nat), s.hall.manualClaim = some m → holdSent m.claim → 1 ≤ m.cls →
    holdEcho m.port m.cls r s → s.plan.next = none → s.hall.maint = [] →
    (∀ c, s.seq.current = some c → c.source = .manual ∧ c.claim = Claim.fresh ∧ c.waitPort = none) →
    ∃ t, exec (.holdReceived s.bay m.port m.cls r) s = .next t ∧ t.hall.manualClaim = none ∧
      s.sup.reports ++ [⟨s.stamp, .claimWon, m.port, m.cls * 256 + 254⟩] <+: t.sup.reports ∧
      (s.seq.state = .matrixFault → t.manual = s.manual ∧ t.seq = s.seq ∧
        ∃ x ∈ t.link.queue, x.frame = .release m.port s.bay) ∧
      (s.seq.state ≠ .matrixFault → s.seq.state ≠ .reposition →
        t.manual = { s.manual with port := some m.port, moveWaits := decide (s.seq.state = .locked) } ∧
        (∃ d, t.seq.current = some d ∧ d.source = .manual ∧ d.port = some m.port ∧ d.chosen = some m.port ∧
          d.cls = s.manual.cls) ∧
        (s.seq.state = .idle ∨ s.seq.state = .heldIdle ∨ s.seq.state = .restartHold ∨ s.seq.state = .paused →
          t.seq.state = .guarding ∧ t.seq.holdEnd = none) ∧
        (s.seq.state = .onAir ∨ s.seq.state = .ramping → t.seq.state = .muting ∧ mutesFrom s.prot.demand t) ∧
        (s.seq.state = .muting ∨ s.seq.state = .guarding ∨ s.seq.state = .locked →
          t.seq.state = s.seq.state) ∧
        (t.portRec m.port).mark = .held s.bay m.cls (stampOf r) ∧
        (t.portRec m.port).standing = some .confirmed)) ∧
  ∀ (s : State) (a : Assignment) (p : Nat), s.seq.current = none → s.plan.next = some a →
    a.chosen = some p → a.claim.state = .inWindow → s.mayOffer = true → s.hall.manualClaim = none →
    s.hall.maint = [] →
    (∀ w, a.claim.window = some w → s.link.engine ≠ .sync → s.seq.state = .idle → s.hall.conflicts = [] →
      s.sup.reports.length ≤ 28 → s.rivalHold p = none →
      let loses (x : Instr) (cause o : Nat) := ∃ t n, exec x s = .next t ∧ sameBay s t ∧
        t.plan.next = some n ∧ (∀ q ∈ n.ports, q.1 = p → q.2 = true) ∧ n.claim.state ≠ .inWindow ∧
        n.claim.state ≠ .won ∧ (⟨s.stamp, .claimLost, p, cause * 256 + o⟩ : Report) ∈ t.sup.reports
      ∀ b, b ≠ s.bay →
        (∀ q cls r, deliverable b (.hold q cls r) = true → s.cfg.sameCurtain p q = true →
          (s.portRec q).mark.taken = false → loses (.holdReceived b q cls r) 0 b) ∧
        (∀ q cls start, deliverable b (.intent q cls start) = true → s.cfg.sameCurtain p q = true →
          (s.portRec q).mark = .free → s.rivalIntent p a.cls a.segStart = none →
          rankBetter cls start b a.cls a.segStart s.bay = true → loses (.intentReceived b q cls start) 1 b) ∧
        (∀ k, deliverable b (.suspect p k) = true → s.rivalIntent p a.cls a.segStart = none →
          loses (.suspectReceived b p k) 2 b) ∧
        (∀ h k r, deliverable b (.object p h k r) = true → loses (.objectReceived b p h k r) 3 b)) ∧
    (∀ w, a.claim.window = some w → s.link.queue.length < 8 →
      ∃ t, exec (.objectionWindowExpiry p) s = .next t ∧
        t.plan.next = some { a with claim := { a.claim with window := none, holdOffered := true } } ∧
        t.link.queue = s.link.queue ++ [{ frame := .hold p a.cls (stampCode a.release), parkedUntil := none,
                                          withdrawn := false, refresh := false }] ∧
        t = { s with time := { s.time with osc := max s.time.osc w }, plan := t.plan, link := t.link }) ∧
    (∀ (e : TxEntry) (rest : List TxEntry) (r : Nat), a.claim.window = none → a.claim.holdOffered = true →
      1 ≤ a.cls → deliverable s.bay (.hold p a.cls r) = true → s.isEcho s.bay (.hold p a.cls r) = true →
      s.link.queue = e :: rest → rest.length ≤ 5 → e.withdrawn = false → e.refresh = false →
      s.hall.conflicts = [] → s.seq.state = .idle →
      (s.rivalHold p = none →
        ∃ t, exec (.holdReceived s.bay p a.cls r) s = .next t ∧ sameBay s t ∧
          t.plan.next = some { a with claim := { a.claim.rest with state := .won } } ∧
          (t.portRec p).mark = .held s.bay a.cls (stampOf r) ∧ (t.portRec p).standing = some .confirmed ∧
          (t.portRec p).lastEcho = .hold ∧ t.link.queue = rest ∧ t.link.resend = 0 ∧
          t.link.busFault = false ∧ (s.sup.reports.length < 32 → t.sup.reports =
            s.sup.reports ++ [⟨s.stamp, .claimWon, p, a.cls * 256 + sourceCode a.source⟩])) ∧
      (∀ o, s.rivalHold p = some o →
        ∃ t b, exec (.holdReceived s.bay p a.cls r) s = .next t ∧ sameBay s t ∧ t.plan.next = some b ∧
          b.claim.state ≠ .won ∧ (∃ x ∈ t.link.queue, x.frame = .release p s.bay)))

/-- R95: MAINT_HOLD's tests in their order; an accepted hold of an available port queues the INTENT of class 0
with the present stamp, and of another port waits. -/
def Obligations.MaintHoldIsTestedInOrder : Prop :=
  ∀ (s : State) (p : Nat), s.sup.nvmPending = none →
    let inList := ∃ e ∈ s.hall.maint, e.port = p
    let barred := ∃ q, q < 32 ∧ s.cfg.sameCurtain p q = true ∧ (s.ownHeld q = true ∨ q ∈ s.claiming)
    (p > 31 → exec (.maintHold p) s = .next (onlyAnswers 16 .badArgument [] s)) ∧
    (p ≤ 31 → s.seq.state = .configFault → exec (.maintHold p) s = .next (onlyAnswers 16 .wrongState [] s)) ∧
    (p ≤ 31 → s.seq.state ≠ .configFault →
      (s.start.step ≠ .done → exec (.maintHold p) s = .next (onlyAnswers 16 .busy [] s)) ∧
      (s.start.step = .done → inList ∨ barred →
        exec (.maintHold p) s = .next (onlyAnswers 16 .wrongState [] s)) ∧
      (s.start.step = .done → ¬ inList → ¬ barred →
        (4 ≤ s.hall.maint.length → exec (.maintHold p) s = .next (onlyAnswers 16 .full [] s)) ∧
        (s.hall.maint.length < 4 →
          ∃ t e, exec (.maintHold p) s = .next t ∧ sameBay s t ∧ t.hall.maint = s.hall.maint ++ [e] ∧
            e.port = p ∧ e.start = s.stamp ∧ t.sup.response.result = some .done ∧
            (s.maintAvailable p s.stamp = true → s.link.queue.length < 8 → e.state = .claiming ∧
              e.claim.state = .queued ∧ t.link.queue = s.link.queue ++
                [{ frame := .intent p 0 s.stamp, parkedUntil := none, withdrawn := false,
                   refresh := false }]) ∧
            (s.maintAvailable p s.stamp = false → e.state = .waiting ∧ t.link = s.link))))

/-- R97, R101, R104: MAINT_RELEASE, FORCE_RELEASE and CLEAR_SUSPECT: what refuses them, and the frame each
queues; before step 5 of the start sequence all three are refused with BUSY, ahead of a test of the port (DEDUCED,
entry 28). -/
def Obligations.ReleasesAndClearsAreOfferedOnCommand : Prop :=
  ∀ (s : State) (p : Nat), s.sup.nvmPending = none →
    let sent (c : Instr) (n : Nat) (f : Frame) := ∃ t, exec c s = .next t ∧
      t.link.queue = s.link.queue ++ [{ frame := f, parkedUntil := none, withdrawn := false,
                                        refresh := false }] ∧
      t = { s with link := t.link, hall := t.hall, sup := answerTo n .done [] s.sup } ∧
      t.hall.map = s.hall.map ∧ t.hall.peers = s.hall.peers
    (s.mayOffer = false → exec (.maintRelease p) s = .next (onlyAnswers 17 .busy [] s) ∧
      exec (.forceRelease p) s = .next (onlyAnswers 18 .busy [] s) ∧
      exec (.clearSuspect p) s = .next (onlyAnswers 19 .busy [] s)) ∧
    (s.mayOffer = true → p > 31 → exec (.maintRelease p) s = .next (onlyAnswers 17 .badArgument [] s) ∧
      exec (.forceRelease p) s = .next (onlyAnswers 18 .badArgument [] s) ∧
      exec (.clearSuspect p) s = .next (onlyAnswers 19 .badArgument [] s)) ∧
    (s.mayOffer = true → p ≤ 31 → s.link.queue.length < 8 →
      sent (.clearSuspect p) 19 (.clear p) ∧
      ((∀ e ∈ s.hall.maint, e.port ≠ p) →
        exec (.maintRelease p) s = .next (onlyAnswers 17 .notFound [] s)) ∧
      (∀ e ∈ s.hall.maint, e.port = p → (∀ x ∈ s.hall.maint, x.port = p → x = e) →
        (e.state = .held → sent (.maintRelease p) 17 (.release p s.bay)) ∧
        (e.state = .waiting → ∃ t, exec (.maintRelease p) s = .next t ∧
          t.hall.maint = s.hall.maint.filter (fun x => decide (x.port ≠ p)) ∧
          t = { s with hall := { s.hall with maint := t.hall.maint },
                       sup := answerTo 17 .done [] s.sup })) ∧
      ((s.portRec p).mark.taken = false →
        exec (.forceRelease p) s = .next (onlyAnswers 18 .notFound [] s)) ∧
      (∀ o, (s.portRec p).mark.taken = true → (s.portRec p).mark.owner = some o →
        (o = s.bay → exec (.forceRelease p) s = .next (onlyAnswers 18 .wrongState [] s)) ∧
        (o ≠ s.bay → (s.hall.peers.get o).presence ≠ .silent →
          exec (.forceRelease p) s = .next (onlyAnswers 18 .notStale [] s)) ∧
        (o ≠ s.bay → (s.hall.peers.get o).presence = .silent →
          sent (.forceRelease p) 18 (.release p o))))

/-- R96, R175: the claims of a maintenance hold and of a manual port are made again after a DROPPED outcome, at
their elapsed count and while the port stays available; of a maintenance list one entry is due here. A maintenance
hold whose port is no longer available waits, with CLAIM_WAIT; a manual claim ends, with CLAIM_LOST as for LOST (the
cause is the model's, entry 33). Before the count nothing changes (the model's, entry 2). -/
def Obligations.DroppedClaimsAreMadeAgain : Prop :=
  ∀ s : State,
    (∀ (before after : List MaintEntry) (e : MaintEntry) (d : Nat), s.hall.maint = before ++ e :: after →
      (∀ x ∈ before ++ after, x.port ≠ e.port ∧ ¬ (x.state = .claiming ∧ x.claim.state = .unclaimed)) →
      e.state = .claiming → e.claim.state = .unclaimed → e.claim.rescanAt = some d →
      (s.time.elapsed < d → exec .maintClaimRetry s = .next s) ∧
      (d ≤ s.time.elapsed → s.maintAvailable e.port e.start = false → s.sup.reports.length < 32 →
        ∃ t f, exec .maintClaimRetry s = .next t ∧ t.hall.maint = before ++ f :: after ∧ f.port = e.port ∧
          f.start = e.start ∧ f.state = .waiting ∧
          t = { s with hall := { s.hall with maint := t.hall.maint }, sup := t.sup } ∧
          t.sup = { s.sup with reports := s.sup.reports ++
            [⟨s.stamp, .claimWait, e.port, s.latestRelease e.port 0 e.start⟩] }) ∧
      (d ≤ s.time.elapsed → s.maintAvailable e.port e.start = true → s.mayOffer = true →
        s.link.queue.length < 8 →
        ∃ t f, exec .maintClaimRetry s = .next t ∧ t.hall.maint = before ++ f :: after ∧ f.port = e.port ∧
          f.claim.state = .queued ∧ t.link.queue = s.link.queue ++
            [{ frame := .intent e.port 0 e.start, parkedUntil := none, withdrawn := false,
               refresh := false }] ∧
          t = { s with hall := { s.hall with maint := t.hall.maint }, link := t.link })) ∧
    (s.hall.manualClaim = none → exec .manualIntentReoffer s = .next s) ∧
    (∀ m d, s.hall.manualClaim = some m → m.claim.state = .unclaimed → m.claim.rescanAt = some d →
      (s.time.elapsed < d → exec .manualIntentReoffer s = .next s) ∧
      (d ≤ s.time.elapsed → s.available m.port m.cls m.start s.manual.freq = false →
        s.sup.reports.length < 32 →
        let why := (s.windowLoss m.port m.cls m.start).getD (5, 255)
        ∃ t, exec .manualIntentReoffer s = .next t ∧
          t = { s with hall := { s.hall with manualClaim := none },
                       sup := { s.sup with reports := s.sup.reports ++
                         [⟨s.stamp, .claimLost, m.port, why.1 * 256 + why.2⟩] } }) ∧
      (d ≤ s.time.elapsed → s.available m.port m.cls m.start s.manual.freq = true → s.mayOffer = true →
        s.link.queue.length < 8 →
        ∃ t n, exec .manualIntentReoffer s = .next t ∧ t.hall.manualClaim = some n ∧ n.port = m.port ∧
          n.claim.state = .queued ∧ t.link.queue = s.link.queue ++
            [{ frame := .intent m.port m.cls m.start, parkedUntil := none, withdrawn := false,
               refresh := false }] ∧
          t = { s with hall := { s.hall with manualClaim := t.hall.manualClaim }, link := t.link }))

/-- R105, R106: a PRESENCE that states a port on the curtain of a CONFIRMED hold puts its sender in the conflict set
and pauses RF at once; an UNCONFIRMED hold is given up, with YIELDED. A bay that releases a port it had stated in
conflict leaves the set, and a set that has stood 10 s declares a lockout of cause CONFLICT and is emptied. Which own
marks count in the record is the model's (entry 34), and so is a count not yet reached (entry 2). Of several ports
held and closed the lockout names the lowest (DESIGN CHOICE, entry 63). -/
def Obligations.AConflictPausesRfAndLocksOutAfterTenSeconds : Prop :=
  ∀ s : State,
    (∀ b x q p c r, deliverable b (.presence x) = true → b ≠ s.bay → s.link.engine ≠ .sync →
      s.isEcho b (.presence x) = false → q ∈ statedPorts x → p < 32 → s.cfg.sameCurtain q p = true →
      (s.portRec p).mark = .held s.bay c r → (s.portRec p).standing = some .confirmed →
      (∀ o, o < 32 → s.ownTaken o = true → o = p) → p ∉ s.hall.yielding →
      (s.seq.state = .ramping ∨ s.seq.state = .onAir) → s.seq.permit = true →
      ∃ t, exec (.presenceReceived b x) s = .next t ∧ sameBase s t ∧
        (⟨b, q, p⟩ : Conflict) ∈ t.hall.conflicts ∧
        (s.hall.conflicts = [] → t.hall.conflictSince = s.time.elapsed) ∧
        (s.hall.conflicts ≠ [] → t.hall.conflictSince = s.hall.conflictSince) ∧
        t.seq.state = .paused ∧ t.seq.permit = false ∧ t.prot.demand = 0) ∧
    (∀ b q p c r, (s.portRec p).mark = .held s.bay c r → (s.portRec p).standing = some .unconfirmed →
      p ∉ s.hall.yielding → s.seq.state = .heldIdle → s.seq.current = none → s.plan.next = none →
      (s.point p).reading = .atClosed → s.sup.reports.length < 32 →
      let t := actConflict b q p s
      sameBase s t ∧ t.seq.state = .guarding ∧ p ∈ t.hall.yielding ∧ t.link = s.link ∧
        t.sup.reports = s.sup.reports ++ [⟨s.stamp, .yielded, p, b⟩]) ∧
    (∀ b p, deliverable b (.release p b) = true → b ≠ s.bay → s.link.engine ≠ .sync →
      (∃ c ∈ s.hall.conflicts, c.bay = b ∧ c.stated = p) →
      ∃ t, exec (.releaseReceived b p b) s = .next t ∧ sameBase s t ∧ (∀ c ∈ t.hall.conflicts, c.bay ≠ b) ∧
        ∀ c ∈ s.hall.conflicts, c.bay ≠ b → s.ownHeld c.own = true → c ∈ t.hall.conflicts) ∧
    (s.conflictDue = false → exec .conflictTimeout s = .next s) ∧
    (s.conflictDue = true → s.prot.lockout = none → s.started = true →
      s.seq.state ≠ .matrixFault → s.seq.state ≠ .configFault →
      ∃ t, exec .conflictTimeout s = .next t ∧ sameBase s t ∧ t.hall.conflicts = [] ∧
        t.prot.lockout = some { cause := .conflict, port := s.lockoutPort, stamp := s.stamp } ∧
        t.seq.state = .locked ∧ t.seq.permit = false)

/-! ## Chapter 6, the matrix row -/

/-- R110 to R112: while a pulse, a settle or a recovery open stands, or motion clearance, the RF permit or a
HOLD_MOTION bars motion, a command of the sequencer only waits; otherwise it is tested against the row and a pulse
starts only for a CLOSE of a held, unflagged port with every other crosspoint open, or for an OPEN. The same
conditions bar what waits: while one of them stands neither the recovery open nor the waiting command starts, and
once they hold the recovery open comes first and the waiting command is tested as a fresh one. In MATRIX_FAULT a
command is refused with FAULT. -/
def Obligations.RowCommandsObeyTheInterlock : Prop :=
  ∀ s : State,
    let clear := s.row.motion = .still ∧ s.row.recoveryOf = none ∧ s.seq.clearance = true ∧
      s.seq.permit = false ∧
      ∀ i, i < 4 → (s.lines.line.get i).latched = true → (s.cfg.lines.get i).holdMotion = false
    (∀ c, ¬ clear → rowCommand c s =
      ({ s with row := { s.row with waiting := some c } },
       if s.row.waiting.isSome then [.cancelled] else [])) ∧
    (∀ p, clear → s.seq.state ≠ .matrixFault →
      ((s.point p).defect ≠ none → rowCommand (.closePort p) s = (s, [.refused p .defective])) ∧
      ((s.point p).defect = none →
        (s.ownHeld p = false ∨ (s.portRec p).lastEcho ≠ .hold →
          rowCommand (.closePort p) s = (s, [.refused p .notHeld])) ∧
        (s.ownHeld p = true → (s.portRec p).lastEcho = .hold →
          ((∃ q, q < 32 ∧ q ≠ p ∧ (s.point q).reading ≠ .atOpen) →
            (rowCommand (.closePort p) s).2 = [.refused p .rowNotOpen, .rowFault] ∧
              (rowCommand (.closePort p) s).1.row = s.row) ∧
          ((∀ q, q < 32 → q ≠ p → (s.point q).reading = .atOpen) → p < 32 →
            ((s.point p).reading = .atClosed → (rowCommand (.closePort p) s).2 = [.closed p] ∧
              (rowCommand (.closePort p) s).1.row.motion = .still) ∧
            ((s.point p).reading ≠ .atClosed → (rowCommand (.closePort p) s).2 = [] ∧
              (rowCommand (.closePort p) s).1.row.motion = .closing p ∧
              (rowCommand (.closePort p) s).1.row.travelTimer = some (s.time.osc + s.cfg.tTravel) ∧
              ((rowCommand (.closePort p) s).1.point p).settled = false)))) ∧
      ((s.point p).reading = .atOpen → (rowCommand (.openPort p) s).2 = [.opened p] ∧
        (rowCommand (.openPort p) s).1.row.motion = .still) ∧
      ((s.point p).reading ≠ .atOpen → (rowCommand (.openPort p) s).2 = [] ∧
        (rowCommand (.openPort p) s).1.row.motion = .opening p ∧
        (rowCommand (.openPort p) s).1.row.travelTimer = some (s.time.osc + s.cfg.tTravel))) ∧
    (∀ c, clear → s.seq.state = .matrixFault → rowCommand c s = (s, [.refused c.port .fault])) ∧
    let free := s.row.motion = .still ∧ s.seq.clearance = true ∧ s.seq.permit = false ∧
      ∀ i, i < 4 → (s.lines.line.get i).latched = true → (s.cfg.lines.get i).holdMotion = false
    (¬ free → tryStart s = (s, [])) ∧
    (free → s.row.recoveryOf = none →
      (s.row.waiting = none → tryStart s = (s, [])) ∧
      (∀ c, s.row.waiting = some c →
        tryStart s = rowCommand c { s with row := { s.row with waiting := none } })) ∧
    (∀ p, free → s.row.recoveryOf = some p → s.seq.state ≠ .matrixFault →
      ((s.point p).reading = .atOpen → (tryStart s).2.head? = some (.closeFailed p)) ∧
      ((s.point p).reading ≠ .atOpen → (tryStart s).2 = [] ∧ (tryStart s).1.row.motion = .opening p ∧
        (tryStart s).1.row.recoveryOf = none ∧ (tryStart s).1.row.waiting = s.row.waiting ∧
        (tryStart s).1.row.travelTimer = some (s.time.osc + s.cfg.tTravel)))

/-- R108, R109, R112 to R116: what contact changes and the row's timers do. A closing crosspoint that reads closed
settles; one whose travel timer expires is flagged, and a recovery open follows or, for an opening one, MATRIX_FAULT; a
crosspoint at rest that departs from its rest reading is a stray change and takes the bay to MATRIX_FAULT with the RF
permit off. A stray change beside a pulse elsewhere lets the pulse go on and bars its recovery open, a pulse that fails
in MATRIX_FAULT is flagged and reported, has no recovery open and leaves the state, and a stray change in CONFIG_FAULT
is flagged and leaves the state (that each further one is flagged again is the model's, entry 45; OPEN_FAILED for a
barred failure is DEDUCED, entry 15). An OPENING pulse that takes the reading open ends with its rest reading open and
is answered OPENED, whose RELEASE is asked for but of the assignment's chosen port (of any other port than the left
port, which R127 names, DEDUCED, entry 37), or after a recovery open CLOSE_FAILED, by which the assignment loses its
port and the planner its next record (R50, R127; beside a manual assignment DEDUCED, entry 91). A settle whose reading
leaves closed is lost, with cause SETTLE_LOST and a recovery open, but for one barred by a stray change beside it, also
after MATRIX_FAULT has been left (DESIGN CHOICE, entry 53; R116 bars the recovery open of a pulse in travel alone). A
settle that ends in REPOSITION meets the row goal of the settled assignment it was for, so that REPOSITION ends with the
tune goal (R130), and without an assignment its port is opened as a left port (R135). CLEAR_DEFECT clears a flag outside
a pulse. A CONTACT_READING_CHANGE is the second of two agreeing samples (DEDUCED, entry 43), and a timer that is stopped
changes nothing (the model's, entry 2). -/
def Obligations.ContactsAndRowTimersEndPulses : Prop :=
  ∀ s : State,
    readingOf true false = .atOpen ∧ readingOf false true = .atClosed ∧ readingOf false false = .travel ∧
    readingOf true true = .conflict ∧
    (∀ (p : Fin 32) o c, s.seq.state ≠ .reposition → (s.point p).reading = readingOf o c →
      ∃ t, exec (.contactReadingChange p o c) s = .next t ∧
        t = { s with inputs := { s.inputs with contacts := s.inputs.contacts.put p (o, c) },
                     row := { s.row with points := t.row.points } } ∧
        t.point p = { s.point p with lastSample := some (readingOf o c) } ∧
        (∀ q : Nat, q ≠ p → t.point q = s.point q)) ∧
    (∀ p : Fin 32, s.row.watching = true → s.row.motion = .closing p → (s.point p).reading ≠ .atClosed →
      ∃ t, exec (.contactReadingChange p false true) s = .next t ∧ sameBase { s with inputs := t.inputs } t ∧
        t.inputs = { s.inputs with contacts := s.inputs.contacts.put p (false, true) } ∧
        t.row.motion = .settling p ∧ t.row.travelTimer = none ∧
        t.row.settleTimer = some (s.time.osc + s.cfg.tSettle) ∧ (t.point p).reading = .atClosed ∧
        (∀ q : Nat, q ≠ p → t.point q = s.point q) ∧ t.prot = s.prot ∧ t.link = s.link ∧ t.hall = s.hall) ∧
    (∀ (p : Fin 32) o c, s.row.watching = true → s.row.motion = .still → s.row.recoveryOf = none →
      s.seq.state ≠ .matrixFault → s.seq.state ≠ .configFault → (s.point p).reading ≠ readingOf o c →
      (s.point p).rest ≠ readingOf o c →
      ∃ t, exec (.contactReadingChange p o c) s = .next t ∧ sameBase { s with inputs := t.inputs } t ∧
        t.inputs = { s.inputs with contacts := s.inputs.contacts.put p (o, c) } ∧
        t.seq.state = .matrixFault ∧
        t.seq.permit = false ∧ (t.point p).reading = readingOf o c ∧ (t.point p).defect = some .stray ∧
        (t.point p).settled = false ∧ t.row.waiting = none ∧ t.row.motion = .still) ∧
    (∀ (p : Fin 32) (q : Nat) o c, s.row.watching = true → q ≠ p →
      (s.row.motion = .closing q ∨ s.row.motion = .opening q) →
      s.seq.state ≠ .matrixFault → s.seq.state ≠ .configFault → (s.point p).reading ≠ readingOf o c →
      s.row.recoveryOf = none → (s.point p).rest ≠ readingOf o c →
      ∃ t, exec (.contactReadingChange p o c) s = .next t ∧ t.seq.state = .matrixFault ∧
        t.seq.permit = false ∧ (t.point p).defect = some .stray ∧ t.row.motion = s.row.motion ∧
        t.row.travelTimer = s.row.travelTimer ∧ t.row.barred = true ∧ t.row.waiting = none) ∧
    (∀ (p : Fin 32) o c, s.row.watching = true → s.row.motion = .still → s.row.recoveryOf = none →
      s.seq.state = .configFault → (s.point p).reading ≠ readingOf o c → (s.point p).rest ≠ readingOf o c →
      s.sup.reports.length < 32 →
      ∃ t, exec (.contactReadingChange p o c) s = .next t ∧
        t.seq = { s.seq with leftPort := t.seq.leftPort } ∧ (t.point p).reading = readingOf o c ∧
        (t.point p).defect = some .stray ∧
        t.sup.reports = s.sup.reports ++ [⟨s.stamp, .crosspointFault, p,
          3 * 65536 + readingCode (s.point p).rest * 256 + readingCode (readingOf o c)⟩]) ∧
    (s.row.travelTimer = none → exec .travelTimerExpiry s = .next s) ∧
    (s.row.settleTimer = none → exec .settleTimerExpiry s = .next s) ∧
    (∀ d p, s.row.travelTimer = some d → p < 32 → s.row.motion = .opening p → s.seq.state ≠ .matrixFault →
      s.seq.state ≠ .configFault →
      ∃ t, exec .travelTimerExpiry s = .next t ∧ sameSetting s t ∧ t.time.osc = max s.time.osc d ∧
        t.seq.state = .matrixFault ∧ t.seq.permit = false ∧ (t.point p).defect = some .openFail ∧
        t.row.motion = .still ∧ t.row.travelTimer = none ∧ t.row.waiting = none) ∧
    (∀ d p, s.row.travelTimer = some d → p < 32 → s.row.motion = .closing p → s.seq.state ≠ .matrixFault →
      s.row.barred = true →
      ∃ t, exec .travelTimerExpiry s = .next t ∧ sameSetting s t ∧ t.time.osc = max s.time.osc d ∧
        t.row.motion = .still ∧ (t.point p).defect = some .closeFail ∧
        t.row.recoveryOf = s.row.recoveryOf ∧ (s.seq.state ≠ .configFault → t.seq.state = .matrixFault)) ∧
    (∀ d p, s.row.travelTimer = some d → p < 32 → s.row.motion = .closing p → s.seq.state ≠ .matrixFault →
      s.row.barred = false → s.rowFree = true → (s.point p).reading ≠ .atOpen →
      ∃ t, exec .travelTimerExpiry s = .next t ∧ sameSetting s t ∧ t.time.osc = max s.time.osc d ∧
        t.row.motion = .opening p ∧ t.row.recoveryMark = true ∧ (t.point p).defect = some .closeFail ∧
        t.row.travelTimer = some (max s.time.osc d + s.cfg.tTravel)) ∧
    (∀ d p, s.row.travelTimer = some d → p < 32 → s.seq.state = .matrixFault →
      s.row.motion = .closing p ∨ s.row.motion = .opening p →
      let closing := s.row.motion = .closing p
      ∃ t, exec .travelTimerExpiry s = .next t ∧ t.time = { s.time with osc := max s.time.osc d } ∧
        t = { s with time := t.time, row := t.row, seq := t.seq, sup := t.sup } ∧
        t.seq = { s.seq with leftPort := t.seq.leftPort } ∧ t.row.motion = .still ∧ t.row.travelTimer = none ∧
        t.row.recoveryOf = s.row.recoveryOf ∧ (closing → (t.point p).defect = some .closeFail) ∧
        (¬ closing → (t.point p).defect = some .openFail) ∧ (t.point p).rest = (s.point p).reading ∧
        (∀ q : Nat, q ≠ p → t.point q = s.point q) ∧
        (s.sup.reports.length < 32 → t.sup.reports = s.sup.reports ++ [⟨s.stamp, .crosspointFault, p,
          (if closing then 0 else 2) * 65536 + readingCode (s.point p).rest * 256 +
            readingCode (s.point p).reading⟩])) ∧
    (∀ d p, s.row.settleTimer = some d → p < 32 → s.row.motion = .settling p → s.seq.state ≠ .reposition →
      s.row.waiting = none → s.row.recoveryOf = none →
      ∃ t, exec .settleTimerExpiry s = .next t ∧
        t = { s with time := { s.time with osc := max s.time.osc d }, row := t.row } ∧
        t.row.motion = .still ∧ t.row.settleTimer = none ∧ (t.point p).rest = .atClosed ∧
        (t.point p).settled = true) ∧
    (∀ d p, s.row.settleTimer = some d → p < 32 → s.row.motion = .settling p → s.seq.state = .reposition →
      s.row.waiting = none → s.row.recoveryOf = none → (s.point p).reading = .atClosed →
      (∀ q, q < 32 → q ≠ p → (s.point q).reading ≠ .atClosed) →
      ∃ t, exec .settleTimerExpiry s = .next t ∧ t.time = { s.time with osc := max s.time.osc d } ∧
        t.row.settleTimer = none ∧ (t.point p).rest = .atClosed ∧
        (∀ c, s.seq.current = some c → settledOn c p →
          (t.point p).settled = true ∧ t.row.motion = .still ∧ t.seq.current = some c ∧
          (s.seq.tuneSub = .tuned → s.seq.tuneFreq = c.freq → repositionEnds c s t) ∧
          (s.seq.tuneSub ≠ .tuned → t.seq = { s.seq with rowSub := .still })) ∧
        (s.seq.current = none →
          t.seq.state = .reposition ∧ t.seq.leftPort = some p ∧ t.seq.rowSub = .opening ∧
          (s.rowFree = true → t.row.motion = .opening p) ∧
          (s.rowFree = false → t.row.motion = .still ∧ t.row.waiting = some (.openPort p)))) ∧
    (∀ p : Fin 32, s.row.motion = .opening p → (s.point p).reading ≠ .atOpen → s.seq.state ≠ .reposition →
      s.row.waiting = none → s.row.recoveryOf = none → s.mayOffer = true → s.link.queue.length < 8 →
      ∃ t, exec (.contactReadingChange p true false) s = .next t ∧ t.row.motion = .still ∧
        t.row.travelTimer = none ∧ t.row.recoveryMark = false ∧ (t.point p).reading = .atOpen ∧
        (t.point p).rest = .atOpen ∧ (∀ q : Nat, q ≠ p → t.point q = s.point q) ∧
        (s.row.recoveryMark = false →
          t.seq = { s.seq with leftPort := (if s.seq.leftPort = some p.val then none else s.seq.leftPort) } ∧
          t.link.queue = s.link.queue ++
            (if s.seq.current.bind (fun c => c.chosen) = some p.val then []
             else [{ frame := .release p s.bay, parkedUntil := none, withdrawn := false, refresh := false }])) ∧
        (s.row.recoveryMark = true →
          (∃ x ∈ t.link.queue, x.frame = .release p s.bay) ∧
          ∀ c, s.seq.current = some c → c.port = some p.val →
            t.plan.next = none ∧ ∃ d, t.seq.current = some d ∧ d.source = c.source ∧ d.port = none)) ∧
    (∀ (p : Fin 32) o c, s.row.motion = .settling p → (s.point p).reading = .atClosed →
      readingOf o c ≠ .atClosed → s.sup.reports.length < 32 →
      let lost : Report := ⟨s.stamp, .crosspointFault, p,
        1 * 65536 + readingCode (s.point p).rest * 256 + readingCode (readingOf o c)⟩
      ∃ t, exec (.contactReadingChange p o c) s = .next t ∧ (t.point p).reading = readingOf o c ∧
        (t.point p).defect = some .closeFail ∧ (t.point p).settled = false ∧ t.row.settleTimer = none ∧
        s.sup.reports ++ [lost] <+: t.sup.reports ∧
        (s.seq.state ≠ .matrixFault → s.row.barred = false →
          (s.rowFree = true → readingOf o c ≠ .atOpen →
            t.row.motion = .opening p ∧ t.row.recoveryMark = true ∧ t.row.recoveryOf = none ∧
              t.row.travelTimer = some (s.time.osc + s.cfg.tTravel) ∧
              t.seq = { s.seq with rowSub := t.seq.rowSub } ∧ t.sup.reports = s.sup.reports ++ [lost]) ∧
          (s.rowFree = false →
            t.row.motion = .still ∧ t.row.recoveryMark = true ∧ t.row.recoveryOf = some p.val ∧
              (t.point p).rest = (s.point p).rest) ∧
          (s.rowFree = true → readingOf o c = .atOpen → s.row.waiting = none → s.seq.state ≠ .reposition →
            t.row.motion = .still ∧ t.row.recoveryMark = false ∧ t.row.recoveryOf = none ∧
              (t.point p).rest = .atOpen ∧
              ∀ x, s.seq.current = some x → x.port = some p.val →
                ∃ d, t.seq.current = some d ∧ d.source = x.source ∧ d.port = none)) ∧
        (s.seq.state = .matrixFault ∨ s.row.barred = true →
          t.row.motion = .still ∧ t.row.recoveryOf = s.row.recoveryOf ∧ (t.point p).rest = readingOf o c ∧
            (s.seq.state ≠ .configFault → t.seq.state = .matrixFault))) ∧
    (s.sup.nvmPending = none → ∀ p,
      (p > 31 → exec (.clearDefect p) s = .next (onlyAnswers 22 .badArgument [] s)) ∧
      (p ≤ 31 → (s.row.motion.subject = some p ∨ s.row.recoveryOf = some p) →
        exec (.clearDefect p) s = .next (onlyAnswers 22 .busy [] s)) ∧
      (p ≤ 31 → s.row.motion.subject ≠ some p → s.row.recoveryOf ≠ some p →
        ∃ t, exec (.clearDefect p) s = .next t ∧ t.point p = { s.point p with defect := none } ∧
          (∀ q, q ≠ p → t.point q = s.point q) ∧
          t = { s with row := { s.row with points := t.row.points },
                       sup := answerTo 22 .done [] s.sup }))

/-! ## Chapter 7, the changeover sequencer -/

/-- R124, R125, R151: each step of MUTING takes the demand to its fifth of the demand at entry, under the target, the
limit and the cap; the fifth removes the permit and enters GUARD, whose timer runs T_guard from the RF-off instant.
With the permit the pair flag, the recovery ceiling, the TX-drop watch, a proof run and the next sample go (R145,
R147, R150, R154, R160). That the event brings its own instant, and does nothing outside MUTING, is the model's (entry
2). -/
def Obligations.MutingStepsDownAndEntersGuard : Prop :=
  ∀ s : State,
    (s.seq.state ≠ .muting → exec .muteStepTimer s = .next s) ∧
    (s.seq.state = .muting → s.seq.permit = true → s.seq.muteStep < 4 →
      ∃ t, exec .muteStepTimer s = .next t ∧
        t.time.osc = max s.time.osc (s.seq.muteFrom + (s.seq.muteStep + 1) * s.cfg.tMute / 5) ∧
        t.seq = { s.seq with muteStep := s.seq.muteStep + 1 } ∧
        t.prot = { s.prot with
          demand := min (min s.prot.target (s.seq.muteDemand * (5 - (s.seq.muteStep + 1)) / 5))
                        (min s.prot.limit s.prot.cap) } ∧
        t = { s with time := { s.time with osc := t.time.osc }, seq := t.seq, prot := t.prot }) ∧
    (s.seq.state = .muting → s.seq.permit = true → s.seq.muteStep = 4 →
      ∃ t, exec .muteStepTimer s = .next t ∧ sameSetting s t ∧
        t.time.osc = max s.time.osc (s.seq.muteFrom + 5 * s.cfg.tMute / 5) ∧
        t.seq.state = .guarding ∧ t.seq.permit = false ∧ t.prot.demand = 0 ∧ t.prot.pairFlag = false ∧
        t.prot.ceiling = none ∧ t.prot.txDropArmed = false ∧ t.prot.proof = none ∧ t.prot.sampleDue = none ∧
        t.seq.current = s.seq.current ∧ t.row = s.row ∧
        (if s.inputs.rfPresent then t.seq.watch = some t.time.osc ∧ t.seq.guardTimer = none
         else t.seq.rfOff = some t.time.osc ∧ t.seq.guardTimer = some (t.time.osc + s.cfg.tGuard)))

/-- R125, R126, R128, R130: the guard timer's end gives motion clearance and enters REPOSITION, where an assignment's
tune request is sent and its port awaited; with no assignment and nothing closed the bay is IDLE. Beside a pulse that
still runs the row sub-state is that of its command, ROW_OPENING or ROW_CLOSING: a recovery open belongs to the CLOSE
that is still to be answered. The steps of R126 follow: the lowest closed port that is not the chosen one is opened as
the left port (that it is the lowest is a DESIGN CHOICE, entry 72), and with none the settled assignment's port is
closed; under a motion hold the command waits (R117). R127 in REPOSITION: the OPENED of the left port asks for its
RELEASE, after which the settled port is closed, an unsettled one awaited, and a bay with no assignment is IDLE; a
CLOSE_FAILED asks for the RELEASE of the port, leaves the assignment none and has it awaited anew, and the next record
is discarded (R50). The end of a clearance wait gives clearance again. That an event brings its own instant, and does
nothing while its timer is stopped, is the model's (entry 2). -/
def Obligations.TheGuardTimerGivesMotionClearance : Prop :=
  ∀ s : State,
    (s.seq.guardTimer = none ∨ s.seq.state ≠ .guarding → exec .guardTimerExpiry s = .next s) ∧
    (∀ d, s.seq.guardTimer = some d → s.seq.state = .guarding → s.row.motion = .still →
      s.row.waiting = none → s.row.recoveryOf = none → s.closedPorts = [] →
      (s.seq.current = none → ∃ t, exec .guardTimerExpiry s = .next t ∧ sameSetting s t ∧
        t.time.osc = max s.time.osc d ∧ t.seq.state = .idle ∧ t.seq.clearance = true ∧
        t.seq.tuneRequest = false ∧ t.seq.tuneSub = .idle ∧ t.row = s.row) ∧
      (∀ c f, s.seq.current = some c → c.source ≠ .manual → c.freq = some f → c.claim.state ≠ .won →
        ∃ t, exec .guardTimerExpiry s = .next t ∧ sameSetting s t ∧ t.time.osc = max s.time.osc d ∧
          t.seq.state = .reposition ∧ t.seq.rowSub = .waitPort ∧ t.seq.clearance = true ∧
          t.seq.guardTimer = none ∧ t.seq.tuneSub = .tuning ∧ t.seq.tuneAttempt = 1 ∧
          t.seq.tuneRequest = true ∧ t.seq.tuneFreq = some f ∧
          t.seq.tuneTimer = some (t.time.osc + s.cfg.tTune) ∧ t.seq.current = some c ∧
          t.row = s.row ∧ t.prot = s.prot)) ∧
    (∀ d p, s.seq.guardTimer = some d → s.seq.state = .guarding → s.row.waiting = none →
      s.row.recoveryOf = none → s.row.motion = .opening p ∨ s.row.motion = .closing p →
      ∃ t, exec .guardTimerExpiry s = .next t ∧ sameSetting s t ∧ t.time.osc = max s.time.osc d ∧
        t.seq.state = .reposition ∧ t.seq.clearance = true ∧ t.seq.guardTimer = none ∧ t.row = s.row ∧
        t.seq.rowSub =
          (if s.row.motion = .opening p ∧ s.row.recoveryMark = false then .opening else .closing)) ∧
    (∀ d, s.seq.guardTimer = some d → s.seq.state = .guarding → s.seq.permit = false → rowQuiet s →
      let starts (t : State) (m : Motion) (w : RowCommand) :=
        exec .guardTimerExpiry s = .next t ∧ sameSetting s t ∧ t.time.osc = max s.time.osc d ∧
          t.seq.state = .reposition ∧ t.seq.clearance = true ∧ t.seq.current = s.seq.current ∧
          (s.motionHold = false → t.row.motion = m ∧ t.row.waiting = none ∧
            t.row.travelTimer = some (max s.time.osc d + s.cfg.tTravel)) ∧
          (s.motionHold = true → t.row.motion = .still ∧ t.row.waiting = some w)
      (∀ q, q < 32 → (s.point q).reading = .atClosed → s.seq.current.bind (fun c => c.chosen) ≠ some q →
        (∀ r, r < q → (s.point r).reading = .atClosed → s.seq.current.bind (fun c => c.chosen) = some r) →
        ∃ t, starts t (.opening q) (.openPort q) ∧ t.seq.leftPort = some q ∧ t.seq.rowSub = .opening) ∧
      (∀ c p, p < 32 → s.seq.current = some c → settledOn c p → (s.point p).defect = none →
        s.mayClose p = true → (s.point p).reading ≠ .atClosed →
        (∀ q, q < 32 → q ≠ p → (s.point q).reading = .atOpen) →
        ∃ t, starts t (.closing p) (.closePort p) ∧ t.seq.rowSub = .closing)) ∧
    (∀ p : Fin 32, s.seq.state = .reposition → s.row.motion = .opening p → s.row.waiting = none →
      s.row.recoveryOf = none → (s.point p).reading ≠ .atOpen →
      (∀ q, q < 32 → q ≠ p.val → (s.point q).reading = .atOpen) → s.mayOffer = true →
      s.link.queue.length < 8 →
      let opens (t : State) := exec (.contactReadingChange p true false) s = .next t ∧
        (∃ x ∈ t.link.queue, x.frame = .release p s.bay) ∧ (t.point p).rest = .atOpen
      (s.row.recoveryMark = false → s.seq.leftPort = some p.val →
        (s.seq.current = none → ∃ t, opens t ∧ t.seq.leftPort = none ∧ t.seq.state = .idle ∧
          t.row.motion = .still) ∧
        (∀ c, s.seq.current = some c → c.source ≠ .manual → c.chosen ≠ some p.val → c.claim.state ≠ .won →
          ∃ t, opens t ∧ t.seq.leftPort = none ∧ t.seq.state = .reposition ∧ t.seq.rowSub = .waitPort ∧
            t.row.motion = .still) ∧
        (∀ c r, s.seq.current = some c → settledOn c r → r < 32 → r ≠ p.val → (s.point r).defect = none →
          s.mayClose r = true → s.rowFree = true →
          ∃ t, opens t ∧ t.seq.leftPort = none ∧ t.seq.state = .reposition ∧ t.seq.rowSub = .closing ∧
            t.row.motion = .closing r ∧ t.row.travelTimer = some (s.time.osc + s.cfg.tTravel))) ∧
      (∀ c, s.row.recoveryMark = true → s.seq.current = some c → settledOn c p →
        ∃ t e, opens t ∧ t.row.motion = .still ∧ t.row.recoveryMark = false ∧ t.seq.state = .reposition ∧
          t.seq.rowSub = .waitPort ∧ t.plan.next = none ∧ t.seq.current = some e ∧ e.source = c.source ∧
          e.port = none ∧ e.claim.state ≠ .won ∧
          ((s.point p).defect ≠ none → e.chosen ≠ some p.val))) ∧
    (s.seq.clearWait = none → exec .clearanceWaitExpiry s = .next s) ∧
    (∀ d, s.seq.clearWait = some d → s.row.waiting = none → s.row.recoveryOf = none →
      s.seq.state ≠ .reposition →
      ∃ t, exec .clearanceWaitExpiry s = .next t ∧
        t.seq = { s.seq with clearance := true, clearWait := none } ∧
        t = { s with time := { s.time with osc := max s.time.osc d }, seq := t.seq })

/-- R123, R154, R157: what RF-present does. With the permit off a fall is the RF-off instant and starts the wait
of GUARD, a rise withdraws clearance and starts the watch afresh, and a watch that ends with RF-present active
declares a lockout of cause MUTE_FAIL and locks the bay, and one that ends with it inactive declares none. With the
permit on a fall stops a watch that runs on, and is a trip once the TX-drop watch is armed. That an event brings its
own instant, and does nothing where the level stands or the watch is stopped, is the model's (entry 2). With no port of
a current assignment a lockout names the lowest port held and closed (DESIGN CHOICE, entry 63). -/
def Obligations.RfPresentIsWatched : Prop :=
  ∀ s : State,
    (s.inputs.rfPresent = false → exec .rfPresentFall s = .next s) ∧
    (s.inputs.rfPresent = true → exec .rfPresentRise s = .next s) ∧
    (s.seq.watch = none → exec .muteFail s = .next s) ∧
    (s.inputs.rfPresent = true → s.seq.permit = false →
      ∃ t, exec .rfPresentFall s = .next t ∧ t.inputs = { s.inputs with rfPresent := false } ∧
        t.seq.watch = none ∧ t.seq.rfOff = some s.time.osc ∧ t.seq.state = s.seq.state ∧
        (s.seq.state = .guarding → t.seq.guardTimer = some (s.time.osc + s.cfg.tGuard)) ∧
        (s.seq.state ≠ .guarding → s.seq.watch ≠ none → s.seq.watchOnRise = true →
          t.seq.clearWait = some (s.time.osc + s.cfg.tGuard)) ∧
        t = { s with inputs := t.inputs, seq := t.seq }) ∧
    (s.inputs.rfPresent = true → s.seq.permit = true →
      ∃ t, exec .rfPresentFall s = .next t ∧ t.inputs = { s.inputs with rfPresent := false } ∧
        t.time = s.time ∧ t.nvm = s.nvm ∧ t.store = s.store ∧
        (s.prot.txDropArmed = false → t = { s with inputs := t.inputs, seq := t.seq } ∧
          t.seq = (if s.seq.watch.isSome then { s.seq with watch := none, rfOff := some s.time.osc }
                   else s.seq)) ∧
        (s.prot.txDropArmed = true → t.seq.permit = false ∧ t.prot.demand = 0 ∧
          t.sup.sticky.tripSeen = true ∧
          (s.prot.lockout = none → s.prot.trips.length < 2 → t.prot.trips = s.prot.trips ++
            [{ elapsed := s.time.elapsed, stamp := s.stamp, cause := .txDrop,
               port := s.seq.current.bind (fun c => c.port) }]))) ∧
    (s.inputs.rfPresent = false →
      ∃ t, exec .rfPresentRise s = .next t ∧ t.inputs = { s.inputs with rfPresent := true } ∧
        (s.seq.permit = true → t = { s with inputs := t.inputs }) ∧
        (s.seq.permit = false → t.seq = { s.seq with clearance := false, clearWait := none,
                                                     guardTimer := none, watch := some s.time.osc,
                                                     watchOnRise := true, rfOff := none } ∧
          t = { s with inputs := t.inputs, seq := t.seq })) ∧
    (∀ w, s.seq.watch = some w → s.inputs.rfPresent = false →
      exec .muteFail s = .next
        { s with time := { s.time with osc := max s.time.osc (w + s.cfg.tRfoff) },
                 seq := { s.seq with watch := none } }) ∧
    (∀ w, s.seq.watch = some w → s.inputs.rfPresent = true → s.prot.lockout = none → s.started = true →
      s.seq.state ≠ .matrixFault → s.seq.state ≠ .configFault →
      ∃ t, exec .muteFail s = .next t ∧ sameSetting s t ∧
        t.time = { s.time with osc := max s.time.osc (w + s.cfg.tRfoff) } ∧
        t.prot.lockout = some { cause := .muteFail, port := s.lockoutPort, stamp := s.stamp } ∧
        t.seq.state = .locked ∧ t.seq.permit = false ∧ t.row = { s.row with waiting := none })

/-- R122, R128, R129: tune done counts only while the tune-request line is raised; the first expiry of the tune timer
sends the same frequency once more, the second files TUNE_FAIL and abandons the assignment; a loss of tune under the
permit removes the permit at once and is no trip: on the air TUNE_FAIL is filed with its flag and it starts again at
GUARD, in MUTING the path goes on. R130: a tune done in REPOSITION with the row goal met ends it, in RAMPING or under an
inhibit in PAUSED, and beside a command under way the row goes on. R176: the second expiry of a manual assignment turns
the RF order OFF, and in REPOSITION with the row goal met the assignment is cleared, the bay being HELD_IDLE or IDLE. A
loss in REPOSITION sends a fresh request. That the tuned
frequency is written at each tune done is DEDUCED (entry 30); that the tune attempt keeps its count after the request
has ended is the model's choice (DESIGN CHOICE, entry 61); that an event brings its own instant, and does nothing
where its timer is stopped or its level stands, is the model's (entry 2). -/
def Obligations.TuneRequestsAreRetriedOnce : Prop :=
  ∀ s : State,
    (s.inputs.tuneDone = true → exec .tuneDone s = .next s) ∧
    (s.inputs.tuneDone = false → exec .tuneLoss s = .next s) ∧
    (s.seq.tuneTimer = none → exec .tuneTimerExpiry s = .next s) ∧
    (s.inputs.tuneDone = false →
      ∃ t, exec .tuneDone s = .next t ∧ t.inputs = { s.inputs with tuneDone := true } ∧
        (s.seq.tuneRequest = false ∨ s.seq.tuneSub ≠ .tuning → t = { s with inputs := t.inputs }) ∧
        (s.seq.tuneRequest = true → s.seq.tuneSub = .tuning → s.seq.state ≠ .reposition →
          t.seq = { s.seq with tuneSub := .tuned, tuneRequest := false, tuneTimer := none } ∧
          t.manual = { s.manual with tuned := s.seq.tuneFreq } ∧
          t = { s with inputs := t.inputs, seq := t.seq, manual := t.manual }) ∧
        (s.seq.tuneRequest = true → s.seq.tuneSub = .tuning → s.seq.state = .reposition →
          t.seq.tuneSub = .tuned ∧ t.seq.tuneRequest = false ∧ t.seq.tuneTimer = none ∧
          (s.rowBusy = true → t.seq.state = .reposition ∧ t.row = s.row ∧ t.seq.current = s.seq.current ∧
            t.seq.permit = s.seq.permit) ∧
          (∀ c p, rowQuiet s → s.seq.current = some c → settledOn c p → s.portReady c = true →
            (∀ q ∈ s.closedPorts, q = p) → s.seq.tuneFreq = c.freq →
            t.row = s.row ∧ t.seq.current = some c ∧ repositionEnds c s t))) ∧
    (∀ d f, s.seq.tuneTimer = some d → s.seq.tuneFreq = some f → s.seq.tuneAttempt < 2 →
      s.seq.state ≠ .locked →
      ∃ t, exec .tuneTimerExpiry s = .next t ∧
        t.seq = { s.seq with tuneRequest := true, tuneSub := .tuning, tuneAttempt := 2,
                             tuneTimer := some (max s.time.osc d + s.cfg.tTune) } ∧
        t = { s with time := { s.time with osc := max s.time.osc d }, seq := t.seq,
                     manual := t.manual }) ∧
    (∀ d c, s.seq.tuneTimer = some d → 2 ≤ s.seq.tuneAttempt → s.seq.current = some c →
      c.source ≠ .manual →
      ∃ t, exec .tuneTimerExpiry s = .next t ∧ sameSetting s t ∧ t.seq.current = none ∧
        t.seq.tuneRequest = false ∧ t.seq.tuneTimer = none ∧
        (∀ f, s.seq.tuneFreq = some f → s.sup.reports.length < 32 →
          s.sup.reports ++ [⟨s.stamp, .tuneFail, sourceCode c.source, f⟩] <+: t.sup.reports)) ∧
    (∀ d c f, s.seq.tuneTimer = some d → 2 ≤ s.seq.tuneAttempt → s.seq.current = some c →
      c.source = .manual → s.seq.tuneFreq = some f → s.sup.reports.length < 32 →
      ∃ t, exec .tuneTimerExpiry s = .next t ∧ t.time = { s.time with osc := max s.time.osc d } ∧
        s.sup.reports ++ [⟨s.stamp, .tuneFail, 254, f⟩] <+: t.sup.reports ∧
        t.manual.rfOn = false ∧ t.manual.tuned = none ∧ t.seq.tuneSub = .failed ∧
        t.seq.tuneRequest = false ∧ t.seq.tuneTimer = none ∧
        (s.seq.state ≠ .reposition → t.seq.current = some c ∧ t.seq.state = s.seq.state ∧
          t.manual = { s.manual with tuned := none, rfOn := false }) ∧
        (s.seq.state = .reposition → rowQuiet s → s.rowMet c = true → c.chosen = c.port →
          t.seq.current = none ∧ t.row = s.row ∧
          t.seq.state = (if s.heldPort = none then .idle else .heldIdle))) ∧
    (s.inputs.tuneDone = true → s.seq.state = .muting → s.seq.permit = true →
      ∃ t, exec .tuneLoss s = .next t ∧ t.seq.state = .muting ∧ t.seq.permit = false ∧ t.prot.demand = 0 ∧
        t.seq.tuneSub = .idle ∧ t.prot.trips = s.prot.trips ∧ t.sup = s.sup ∧ t.seq.current = s.seq.current) ∧
    (s.inputs.tuneDone = true → s.seq.state = .ramping ∨ s.seq.state = .onAir → s.seq.permit = true →
      ∃ t, exec .tuneLoss s = .next t ∧ t.inputs = { s.inputs with tuneDone := false } ∧
        t.seq.state = .guarding ∧ t.seq.permit = false ∧ t.prot.demand = 0 ∧ t.seq.tuneSub = .idle ∧
        t.prot.trips = s.prot.trips ∧ t.seq.current = s.seq.current ∧ t.row = s.row ∧ t.nvm = s.nvm ∧
        t.time = s.time ∧
        (∀ c f, s.seq.current = some c → s.seq.tuneFreq = some f → s.sup.reports.length < 32 →
          t.sup.reports = s.sup.reports ++ [⟨s.stamp, .tuneFail, sourceCode c.source, 1 * 65536 + f⟩])) ∧
    (∀ c p f, s.inputs.tuneDone = true → s.seq.state = .reposition → s.seq.tuneSub = .tuned →
      s.seq.permit = false → s.seq.current = some c → c.source ≠ .manual → c.freq = some f →
      s.rowBusy = true ∨ (settledOn c p ∧ s.portReady c = true ∧ ∀ q ∈ s.closedPorts, q = p) →
      ∃ t, exec .tuneLoss s = .next t ∧ t.inputs = { s.inputs with tuneDone := false } ∧
        t.seq.state = .reposition ∧ t.seq.tuneSub = .tuning ∧ t.seq.tuneAttempt = 1 ∧
        t.seq.tuneRequest = true ∧ t.seq.tuneFreq = some f ∧
        t.seq.tuneTimer = some (s.time.osc + s.cfg.tTune) ∧ t.seq.current = some c ∧ t.row = s.row ∧
        t.sup = s.sup ∧ t.prot = s.prot)

/-- R131, R136, R151, R154: each step of the ramp raises the step count and the demand until the ramp value stands at
the target, where ON_AIR is entered; the first arms the TX-drop watch, which trips at once while RF-present is
inactive; the end of a restart hold resumes the assignment, or pauses it while an inhibit stands. That the ramp step
brings its own instant, and an end not reached changes nothing, is the model's (entry 2). That a first step which also
reaches the target trips, and does not enter ON_AIR, is a DESIGN CHOICE (entry 99). With no port of a current
assignment the lockout of a third trip names the lowest port held and closed (DESIGN CHOICE, entry 63). -/
def Obligations.TheRampClimbsToOnAir : Prop :=
  ∀ s : State,
    (s.seq.stepTimer = none → exec .rampStep s = .next s) ∧
    (∀ d, s.seq.stepTimer = some d → s.seq.permit = true → s.seq.state = .ramping →
      (s.prot.txDropArmed = true ∨ s.inputs.rfPresent = true) →
      let ramp := min s.prot.target ((s.seq.stepCount + 1) * s.prot.step)
      ∃ t, exec .rampStep s = .next t ∧ sameSetting s t ∧ t.time.osc = max s.time.osc d ∧
        t.seq.permit = true ∧ t.seq.stepCount = s.seq.stepCount + 1 ∧ t.prot.txDropArmed = true ∧
        t.prot.demand = min ramp (min s.prot.limit s.prot.cap) ∧
        (ramp ≠ s.prot.target → t.seq.state = .ramping ∧
          t.seq.stepTimer = some (t.time.osc + s.cfg.tStep) ∧ t.seq.current = s.seq.current ∧
          t.sup = s.sup) ∧
        (ramp = s.prot.target → t.seq.state = .onAir ∧ t.seq.stepTimer = none ∧
          ∀ c, s.seq.current = some c → c.source ≠ .manual → c.onAirStamp = none →
            s.sup.reports.length < 32 →
            t.seq.current = some { c with onAirStamp := some s.stamp, onAirCount := some s.time.elapsed } ∧
            t.sup.reports = s.sup.reports ++ [if s.stamp ≤ c.segStart then
              ⟨s.stamp, .entryOnAir, sourceCode c.source, portCode c.port⟩
             else ⟨s.stamp, .entryLate, sourceCode c.source, s.stamp - c.segStart⟩])) ∧
    (∀ d, s.seq.stepTimer = some d → s.seq.state = .ramping → tripReady s → s.prot.txDropArmed = false →
      s.inputs.rfPresent = false →
      ∃ t, exec .rampStep s = .next t ∧ sameSetting s t ∧ t.time.osc = max s.time.osc d ∧
        tripTaken .txDrop 0 s t) ∧
    (s.seq.state ≠ .restartHold ∨ s.reached s.seq.holdEnd = false → exec .restartHoldEnd s = .next s) ∧
    (s.seq.state = .restartHold → s.reached s.seq.holdEnd = true → s.seq.permit = false →
      (s.rfInhibit = true → ∃ t, exec .restartHoldEnd s = .next t ∧ sameBase s t ∧
        t.seq.state = .paused ∧ t.seq.permit = false ∧ t.seq.current = s.seq.current) ∧
      (∀ c, s.rfInhibit = false → s.seq.current = some c → c.source ≠ .manual → c.claim.state = .won →
        s.inputs.arc = false →
        (s.portReady c = true → s.seq.tuneSub = .tuned → s.seq.tuneFreq = c.freq →
          ∃ t, exec .restartHoldEnd s = .next t ∧ sameBase s t ∧ t.seq.state = .ramping ∧
            t.seq.permit = true ∧ t.seq.stepCount = 0 ∧ t.prot.demand = 0 ∧ t.seq.clearance = false ∧
            t.seq.stepTimer = some (s.time.osc + s.cfg.tStep) ∧ t.seq.programme = c.programme ∧
            t.prot.sampleDue = some (s.time.osc + 10)) ∧
        (s.portReady c = false ∨ s.seq.tuneSub ≠ .tuned →
          ∃ t, exec .restartHoldEnd s = .next t ∧ sameBase s t ∧ t.seq.state = .guarding)))

/-- R53, R133 to R135: a changeover start takes the next record, on the continuation path when it keeps the port and
the tuned frequency on the air, so that the permit stays; a segment end with no record taken reports the assignment,
clears it and starts MUTING from the demand that stood, as far as the new target lets it stand (DEDUCED, entry 35). A
record beside a current assignment is due for a takeover only where it is chained (R43). Before its instant an event
changes nothing (the model's, entry 2). -/
def Obligations.RecordsAreTakenAndSegmentsEnd : Prop :=
  ∀ s : State,
    (s.startDue = false → exec .changeoverStart s = .next s) ∧
    (∀ a c, s.seq.current = some c → s.plan.next = some a → a.chained = false →
      exec .changeoverStart s = .next s) ∧
    (s.endDue = false → exec .segmentEnd s = .next s) ∧
    (∀ a, s.startDue = true → s.seq.current = none → s.seq.state = .idle → s.plan.next = some a →
      a.source ≠ .manual →
      ∃ t c, exec .changeoverStart s = .next t ∧ sameBase s t ∧ t.seq.state = .guarding ∧
        t.seq.permit = false ∧ t.seq.current = some c ∧ c.source = a.source ∧ c.segStart = a.segStart ∧
        c.segEnd = a.segEnd ∧ c.freq = a.freq ∧ c.power = a.power ∧ c.cls = a.cls ∧
        c.programme = a.programme ∧ c.onAirStamp = none) ∧
    (∀ a c p f, s.startDue = true → s.seq.current = some c → s.seq.state = .onAir → s.seq.permit = true →
      s.plan.next = some a → c.source ≠ .manual → c.port = some p → a.chosen = some p →
      s.seq.tuneSub = .tuned → s.seq.tuneFreq = some f → a.freq = some f →
      ∃ t d, exec .changeoverStart s = .next t ∧ sameBase s t ∧ t.seq.state = .onAir ∧
        t.seq.permit = true ∧ t.seq.current = some d ∧ d.source = a.source ∧
        t.seq.programme = a.programme) ∧
    (∀ c e, s.endDue = true → s.plan.next = none → s.seq.current = some c → c.source ≠ .manual →
      c.segEnd = some e → s.seq.state = .onAir → s.seq.permit = true →
      ∃ t, exec .segmentEnd s = .next t ∧ sameBase s t ∧ t.seq.state = .muting ∧ t.seq.permit = true ∧
        t.seq.current = none ∧ mutesFrom s.prot.demand t ∧ t.seq.muteStep = 0 ∧
        t.seq.muteFrom = s.time.osc ∧ t.seq.clearance = false ∧ t.row.points = s.row.points ∧
        t.row.motion = s.row.motion ∧
        (s.sup.reports.length < 32 → s.sup.reports ++ [match c.onAirCount with
            | some n => ⟨s.stamp, .entryEnded, sourceCode c.source, (s.time.elapsed - n) % 2 ^ 32⟩
            | none => ⟨s.stamp, .entryMissed, sourceCode c.source, c.segStart⟩] <+: t.sup.reports))

/-! ## Chapter 8, the protection unit -/

/-- R146, R148: the values of a sample, with their ranges. A sample below the sense floor is neutral; a counted
one has its ratio, its S and its foldback fraction by the formulas, and each stays in its range. -/
def Obligations.ReflectionIsGradedByTheTwoCodes : Prop :=
  ∀ (c : Params) (vf vr : Nat), paramsSound c → vf ≤ 4095 → vr ≤ 4095 →
    let x := sampleOf c vf vr
    (vf < c.vMin → x.counted = false ∧ x.rho = 0 ∧ x.s = 100 ∧ x.f = 1000) ∧
    (c.vMin ≤ vf → x.counted = true ∧
      (vf ≤ vr → x.rho = 999) ∧ (vr < vf → x.rho * vf ≤ 1000 * vr ∧ 1000 * vr < (x.rho + 1) * vf) ∧
      x.rho ≤ 999 ∧ 100 ≤ x.s ∧ x.s ≤ 9999 ∧
      (x.s < 9999 → x.s * (1000 - x.rho) ≤ 100 * (1000 + x.rho) ∧
        100 * (1000 + x.rho) < (x.s + 1) * (1000 - x.rho)) ∧
      (100 * (1000 + x.rho) < 9999 * (1000 - x.rho) → x.s < 9999) ∧
      (x.s ≤ c.sW → x.f = 1000) ∧
      (c.sW < x.s → x.s < c.sT → x.f < 1000 ∧
        x.f = max c.fMin (1000 * (c.sT - x.s) / (c.sT - c.sW))) ∧
      (c.sT ≤ x.s → x.f = c.fMin) ∧ c.fMin ≤ x.f ∧ x.f ≤ 1000)

/-- R145, R147, R149, R151: a sample while the permit is asserted moves the foldback limit, the ceiling and the
recovery timer, files FOLDBACK_ON at the first fall and works the demand out again; the second counted sample
at or above S_t in a row trips. That the ceiling is the candidate in every case is DEDUCED (entry 38); that a sample
brings its own instant, and changes nothing while none is due, is the model's (entry 2). With no port of a current
assignment the lockout of a third trip names the lowest port held and closed (DESIGN CHOICE, entry 63). -/
def Obligations.ASampleSetsTheFoldbackLimitOrTrips : Prop :=
  ∀ (s : State) (vf vr : BitVec 12),
    (s.prot.sampleDue = none ∨ s.seq.permit = false → exec (.couplerSample vf vr) s = .next s) ∧
    (∀ d, s.prot.sampleDue = some d → s.seq.permit = true → s.sup.reports.length < 32 →
      let x := sampleOf s.cfg vf.toNat vr.toNat
      let cand := s.prot.target * x.f / 1000
      let now := max s.time.osc d
      (x.counted = false ∨ x.s < s.cfg.sT ∨ s.prot.pairFlag = false →
        ∃ t, exec (.couplerSample vf vr) s = .next t ∧ t.time.osc = now ∧ t.prot.last = some x ∧
          t.prot.sampleDue = some (d + 10) ∧ t.prot.limit = min s.prot.limit cand ∧
          t.prot.ceiling = some cand ∧
          t.prot.pairFlag = (if x.counted then decide (s.cfg.sT ≤ x.s) else s.prot.pairFlag) ∧
          (cand ≤ s.prot.limit → t.prot.recoveryTimer = none) ∧
          (s.prot.limit < cand → s.prot.foldback = true →
            t.prot.recoveryTimer = some (s.prot.recoveryTimer.getD (now + s.cfg.tStep))) ∧
          t.prot.foldback = (s.prot.foldback || decide (cand < s.prot.limit)) ∧
          (cand < s.prot.limit → t.prot.lowest =
            if s.prot.foldback then min s.prot.lowest cand else cand) ∧
          t.prot.demand = min s.valueInUse (min t.prot.limit s.prot.cap) ∧
          t.sup = { s.sup with reports := s.sup.reports ++
            (if cand < s.prot.limit ∧ s.prot.foldback = false then
              [⟨s.stamp, .foldbackOn, portCode (s.seq.current.bind (fun c => c.port)),
                x.s * 65536 + x.f⟩]
             else []) } ∧
          t = { s with time := { s.time with osc := now }, prot := t.prot, sup := t.sup }) ∧
      (x.counted = true → s.cfg.sT ≤ x.s → s.prot.pairFlag = true → tripReady s →
        ∃ t, exec (.couplerSample vf vr) s = .next t ∧ sameSetting s t ∧ t.time.osc = now ∧
          t.prot.last = some x ∧ t.prot.sampleDue = none ∧ tripTaken .vswr x.s s t))

/-- R153, R155, R156: an arc trips only while the permit is asserted, at the change of the input and, where the input
is active already, at the assertion of the permit, here at the end of a restart hold; the list ages on the
elapsed-second count, is frozen by a lockout, and a REDUCED cap recovers when ageing empties it. What an ARC carries,
and that one on an active input or without the permit only sets the level, is DEDUCED (entry 23). With no port of a
current assignment the lockout of a third trip names the lowest port held and closed (DESIGN CHOICE, entry 63). -/
def Obligations.ArcsTripAndTheTripListAges : Prop :=
  ∀ s : State,
    (∀ stays, s.inputs.arc = true ∨ s.seq.permit = false →
      exec (.arc stays) s = .next { s with inputs := { s.inputs with arc := stays } }) ∧
    (∀ stays, s.inputs.arc = false → tripReady s →
      ∃ t, exec (.arc stays) s = .next t ∧ t.inputs = { s.inputs with arc := stays } ∧
        t.time = s.time ∧ t.store = s.store ∧ t.nvm = s.nvm ∧ t.lines = s.lines ∧
        t.seq.current = s.seq.current ∧ tripTaken .arc 0 s t) ∧
    (∀ c, s.inputs.arc = true → s.seq.state = .restartHold → s.reached s.seq.holdEnd = true →
      s.seq.permit = false → s.rfInhibit = false → s.seq.current = some c → c.source ≠ .manual →
      c.claim.state = .won → s.portReady c = true → s.seq.tuneSub = .tuned → s.seq.tuneFreq = c.freq →
      s.prot.lockout = none → s.started = true → s.sup.reports.length ≤ 28 →
      ∃ t, exec .restartHoldEnd s = .next t ∧ sameBase s t ∧ tripTaken .arc 0 s t) ∧
    (s.prot.lockout ≠ none → exec .tripAgeing s = .next s) ∧
    (s.prot.lockout = none → ∃ t, exec .tripAgeing s = .next t ∧
      t = { s with prot := t.prot } ∧
      (∀ e, e ∈ t.prot.trips ↔ e ∈ s.prot.trips ∧ s.time.elapsed < e.elapsed + s.cfg.tripWindow) ∧
      t.prot.trips.Sublist s.prot.trips ∧
      (t.prot.trips = [] → s.prot.trips ≠ [] → s.prot.capState = .reduced →
        t.prot.capState = .recovering ∧ t.prot.cap = s.prot.target / 2 ∧
          t.prot.capTimer = some (s.time.osc + s.cfg.tStep)) ∧
      (t.prot.trips ≠ [] ∨ s.prot.trips = [] ∨ s.prot.capState ≠ .reduced →
        t.prot.capState = s.prot.capState ∧ t.prot.cap = s.prot.cap ∧
          t.prot.capTimer = s.prot.capTimer))

/-- R150, R152, R160: the recovery timer raises the limit toward the ceiling and ends the foldback at the target, the
cap timer raises the cap toward the target, and a proof run that has stood its time sends CLEAR. A run starts at a
sample of at least half the target on a port in the own suspect list, stands over further such samples and stops at
one below it. That an event brings its own instant, and does nothing while its timer is stopped, is the model's
(entry 2). -/
def Obligations.RecoveryStepsRaiseTheLimitAndTheCap : Prop :=
  ∀ s : State,
    (s.prot.recoveryTimer = none → exec .recoveryTimerExpiry s = .next s) ∧
    (s.prot.capTimer = none → exec .capTimerExpiry s = .next s) ∧
    (s.proofDue = false → exec .proofRunComplete s = .next s) ∧
    (∀ d x, s.prot.recoveryTimer = some d → s.prot.ceiling = some x → s.sup.reports.length < 32 →
      let l := min x (s.prot.limit + s.prot.step)
      let now := max s.time.osc d
      ∃ t, exec .recoveryTimerExpiry s = .next t ∧
        t = { s with time := { s.time with osc := now }, prot := t.prot, sup := t.sup } ∧
        (l < s.prot.target → t.prot.limit = l ∧ t.prot.foldback = s.prot.foldback ∧ t.sup = s.sup ∧
          t.prot.recoveryTimer = (if l < x then some (now + s.cfg.tStep) else none)) ∧
        (s.prot.target ≤ l → t.prot.limit = s.prot.target ∧ t.prot.foldback = false ∧
          t.prot.recoveryTimer = none ∧
          t.sup = { s.sup with reports := s.sup.reports ++
            [⟨s.stamp, .foldbackOff, portCode (s.seq.current.bind (fun c => c.port)),
              min s.prot.lowest s.prot.target⟩] }) ∧
        t.prot.demand = (if s.seq.permit then min s.valueInUse (min t.prot.limit s.prot.cap) else 0)) ∧
    (∀ d, s.prot.capTimer = some d →
      let k := min s.prot.target (s.prot.cap + s.prot.step)
      ∃ t, exec .capTimerExpiry s = .next t ∧ t.prot.cap = k ∧
        (k = s.prot.target → t.prot.capState = .full ∧ t.prot.capTimer = none) ∧
        (k ≠ s.prot.target → t.prot.capState = s.prot.capState ∧
          t.prot.capTimer = some (max s.time.osc d + s.cfg.tStep)) ∧
        t.prot.demand = (if s.seq.permit then min s.valueInUse (min s.prot.limit k) else 0) ∧
        t = { s with time := { s.time with osc := max s.time.osc d }, prot := t.prot }) ∧
    (∀ (d : Nat) (vf vr : BitVec 12), s.prot.sampleDue = some d → s.seq.permit = true →
      let x := sampleOf s.cfg vf.toNat vr.toNat
      let port := s.seq.current.bind (fun c => c.port)
      x.counted = false ∨ x.s < s.cfg.sT ∨ s.prot.pairFlag = false →
      ∃ t, exec (.couplerSample vf vr) s = .next t ∧
        (∀ p k, port = some p → (p, k) ∈ s.hall.suspects →
          (s.prot.target ≤ 2 * x.pf → s.prot.proof = none → t.prot.proof = some (p, s.time.elapsed)) ∧
          (s.prot.target ≤ 2 * x.pf → ∀ r, s.prot.proof = some r → t.prot.proof = some r) ∧
          (2 * x.pf < s.prot.target → t.prot.proof = none)) ∧
        ((∀ p k, port = some p → (p, k) ∉ s.hall.suspects) → s.prot.proof = none → t.prot.proof = none)) ∧
    (∀ p start, s.prot.proof = some (p, start) → start + s.cfg.proofTime ≤ s.time.elapsed →
      s.mayOffer = true → s.link.queue.length < 8 →
      ∃ t, exec .proofRunComplete s = .next t ∧ t.prot = { s.prot with proof := none } ∧
        t.link.queue = s.link.queue ++ [{ frame := .clear p, parkedUntil := none, withdrawn := false,
                                          refresh := false }] ∧
        t = { s with prot := t.prot, link := t.link })

/-- R159: CLEAR_LOCKOUT's three tests in their order, and what it undoes; in MATRIX_FAULT and CONFIG_FAULT the
sequencer stays. A LOCKED bay resumes (R138): with nothing closed it is IDLE and with a port closed and held it is
HELD_IDLE; a settled schedule assignment or a manual one that is ready to radiate ramps, and a schedule assignment that
is not goes through GUARD. -/
def Obligations.ClearLockoutIsTestedInOrderAndResumes : Prop :=
  ∀ s : State, s.sup.nvmPending = none →
    (s.prot.lockout = none → exec .clearLockout s = .next (onlyAnswers 20 .wrongState [] s)) ∧
    (s.prot.lockout ≠ none →
      (∃ i, i < 4 ∧ (s.lines.line.get i).latched = true ∧
          ((s.cfg.lines.get i).mute = true ∨ (s.cfg.lines.get i).lockout = true)) ∨
        (s.inputs.rfPresent = true ∧ s.seq.permit = false) →
      exec .clearLockout s = .next (onlyAnswers 20 .stillActive [] s)) ∧
    (s.prot.lockout ≠ none →
      (∀ i, i < 4 → (s.lines.line.get i).latched = true →
          (s.cfg.lines.get i).mute = false ∧ (s.cfg.lines.get i).lockout = false) →
      (s.inputs.rfPresent = false ∨ s.seq.permit = true) →
      (s.seq.state ≠ .locked → ∃ t, exec .clearLockout s = .next t ∧
        t.prot = { s.prot with lockout := none, lastLockout := s.prot.lockout.map Lockout.kept, trips := [],
                               capState := .full, cap := s.prot.target, capTimer := none,
                               pairFlag := false, demand := t.prot.demand } ∧
        t.prot.demand = (if s.seq.permit then min s.valueInUse (min s.prot.limit s.prot.target) else 0) ∧
        t = { s with prot := t.prot, sup := answerTo 20 .done [] s.sup }) ∧
      (s.seq.state = .locked → s.manual.flag = true → s.hall.yielding = [] →
        (s.seq.current = none → s.closedPorts = [] →
          ∃ t, exec .clearLockout s = .next t ∧ sameBase s t ∧ t.seq = { s.seq with state := .idle } ∧
            t.prot.lockout = none ∧ t.prot.lastLockout = s.prot.lockout.map Lockout.kept ∧ t.prot.trips = [] ∧
            t.sup = answerTo 20 .done [] s.sup) ∧
        (∀ c p, s.seq.current = some c → c.source = .manual → c.port = some p → s.ownHeld p = true →
          (s.point p).reading = .atClosed → (s.point p).settled = true → s.manual.rfOn = true →
          s.manual.tuned = s.manual.freq → s.hall.conflicts = [] → s.inputs.arc = false →
          ∃ t, exec .clearLockout s = .next t ∧ sameBase s t ∧ t.seq.state = .ramping ∧
            t.seq.permit = true ∧ t.seq.stepCount = 0 ∧ t.prot.demand = 0 ∧ t.prot.cap = s.prot.target ∧
            t.prot.lockout = none ∧ t.prot.trips = [] ∧ t.sup = answerTo 20 .done [] s.sup)) ∧
      (s.seq.state = .locked → s.hall.yielding = [] →
        let lifted (t : State) := sameBase s t ∧ t.prot.lockout = none ∧
          t.prot.lastLockout = s.prot.lockout.map Lockout.kept ∧ t.prot.trips = [] ∧ t.prot.cap = s.prot.target ∧ t.sup.response.result = some .done
        (∀ p, s.seq.current = none → s.heldPort = some p →
          ∃ t, exec .clearLockout s = .next t ∧ lifted t ∧ t.seq.state = .heldIdle ∧ t.seq.current = none) ∧
        (∀ c, s.seq.current = some c → c.source ≠ .manual → c.claim.state = .won → s.hall.conflicts = [] →
          (s.portReady c = true → s.seq.tuneSub = .tuned → s.seq.tuneFreq = c.freq → s.inputs.arc = false →
            ∃ t d, exec .clearLockout s = .next t ∧ lifted t ∧ t.seq.state = .ramping ∧
              t.seq.permit = true ∧ t.seq.stepCount = 0 ∧ t.prot.demand = 0 ∧ t.seq.current = some d ∧
              d.source = c.source ∧ d.port = c.port) ∧
          (s.portReady c = false ∨ s.seq.tuneSub ≠ .tuned →
            ∃ t d, exec .clearLockout s = .next t ∧ lifted t ∧ t.seq.state = .guarding ∧
              t.seq.current = some d ∧ d.source = c.source ∧ d.port = c.port))))

/-! ## Chapter 9, the fault lines -/

/-- R163 to R168: two agreeing samples of a level. Before the load ends they are only kept; a level that stands
already changes nothing; a line that goes active declares by its detect setting and its rearm condition, and one that
goes inactive clears an AUTO flag and rearms the line. The lifting of the last MUTE action ends a pause (R137, R166),
and that of the last HOLD_MOTION starts the row command that waits (R117). That the command is the second of the two
samples, and that samples before the load are only kept, is DEDUCED (entry 26); what it does at a level that stands
is the model's (entry 2). With no port of a current assignment a lockout names the lowest port held and closed (DESIGN
CHOICE, entry 63). -/
def Obligations.LinesDeclareAndAutoLinesClear : Prop :=
  ∀ (s : State) (i : Fin 4) (pin : Bool),
    let c := s.cfg.lines.get i
    let l := s.lines.line.get i
    let active := decide (c.polarity = .activeHigh ∧ pin = true ∨ c.polarity = .activeLow ∧ pin = false)
    let declares := l.waitInactive = false ∧ (c.detect = .edge ∨ l.latched = false)
    ∃ t, exec (.faultLineLevelChange i pin) s = .next t ∧ t.inputs.linePins.get i = pin ∧
      t.inputs.arc = s.inputs.arc ∧ t.inputs.rfPresent = s.inputs.rfPresent ∧ t.inputs.tuneDone = s.inputs.tuneDone ∧
      t.inputs.strap = s.inputs.strap ∧ t.inputs.contacts = s.inputs.contacts ∧ t.nvm = s.nvm ∧
      t.time = s.time ∧ t.store = s.store ∧ t.start = s.start ∧ (t.lines.line.get i).lastPin = some pin ∧
      (∀ j : Nat, j ≠ i → t.lines.line.get j = s.lines.line.get j ∧
        t.inputs.linePins.get j = s.inputs.linePins.get j) ∧
      (s.start.step = .load ∨ l.filtered = (if active then .active else .inactive) →
        t.lines.line.get i = { l with lastPin := some pin } ∧
          t = { s with inputs := t.inputs, lines := t.lines }) ∧
      (s.start.step ≠ .load → active = true → l.filtered ≠ .active →
        (¬ declares → t.lines.line.get i = { l with lastPin := some pin, filtered := .active } ∧
          t = { s with inputs := t.inputs, lines := t.lines }) ∧
        (declares → s.sup.reports.length ≤ 30 →
          t.lines.line.get i = { l with lastPin := some pin, filtered := .active, latched := true,
                                        count := min 65535 (l.count + 1) } ∧
          (⟨s.stamp, .faultLine, i, actionCode c * 65536 + min 65535 (l.count + 1)⟩ : Report)
            ∈ t.sup.reports ∧
          (c.mute = false → c.lockout = false → t = { s with inputs := t.inputs, lines := t.lines,
                                                             sup := t.sup }) ∧
          (c.mute = true → c.lockout = false → l.latched = false → s.seq.permit = true →
            s.seq.state = .onAir ∨ s.seq.state = .ramping →
            t.seq.state = .paused ∧ t.seq.permit = false ∧ t.prot.demand = 0 ∧
              t.prot.trips = s.prot.trips ∧ t.prot.cap = s.prot.cap) ∧
          (c.lockout = true → s.prot.lockout = none → s.started = true → s.seq.state ≠ .matrixFault →
            s.seq.state ≠ .configFault →
            t.seq.state = .locked ∧ t.seq.permit = false ∧ t.hall.suspects = s.hall.suspects ∧
            t.prot.lockout = some { cause := .faultLine i, port := s.lockoutPort, stamp := s.stamp }))) ∧
      (s.start.step ≠ .load → active = false → l.filtered ≠ .inactive → s.sup.reports.length < 32 →
        t.lines.line.get i = { l with lastPin := some pin, filtered := .inactive, waitInactive := false,
                                      latched := l.latched && decide (c.clearMode ≠ .auto) } ∧
        (c.mute = false ∧ c.holdMotion = false ∨ c.clearMode ≠ .auto ∨ l.latched = false →
          t = { s with inputs := t.inputs, lines := t.lines, sup := t.sup } ∧
          t.sup = { s.sup with reports := s.sup.reports ++
            (if l.latched = true ∧ c.report = true then
              [⟨s.stamp, .faultLine, i, (if c.clearMode = .auto then 1 else 3) * 16777216 +
                actionCode c * 65536 + l.count⟩]
             else []) })) ∧
      (s.start.step ≠ .load → active = false → l.filtered ≠ .inactive → c.clearMode = .auto →
        (∀ a, lastAction LineConfig.mute i s → c.holdMotion = false → pausedWith a s → pauseEnds a s t) ∧
        (lastAction LineConfig.holdMotion i s → c.mute = false → onlyHeldBack s → waitingStarts s t))

/-- R169: CLEAR_FAULT_LINE by the clear mode of the line; the line's own flag and rearm condition are all it writes
for a line that holds neither RF nor the row. Clearing the last MUTE action ends a pause (R137, R166), and clearing the
last HOLD_MOTION starts the row command that waits (R117). -/
def Obligations.ClearFaultLineActsByTheClearMode : Prop :=
  ∀ (s : State) (i : Nat), s.sup.nvmPending = none →
    let c := s.cfg.lines.get i
    let l := s.lines.line.get i
    (3 < i → exec (.clearFaultLine i) s = .next (onlyAnswers 21 .badArgument [] s)) ∧
    (i ≤ 3 →
      (l.latched = false → exec (.clearFaultLine i) s = .next (onlyAnswers 21 .done [] s)) ∧
      (l.latched = true → c.clearMode = .auto ∨ (c.clearMode = .manualLevel ∧ l.filtered = .active) →
        exec (.clearFaultLine i) s = .next (onlyAnswers 21 .stillActive [] s)) ∧
      (l.latched = true → c.clearMode = .manualRearm ∨ (c.clearMode = .manualLevel ∧ l.filtered ≠ .active) →
        ∃ t, exec (.clearFaultLine i) s = .next t ∧ t.sup.response.result = some .done ∧
          t.lines.line.get i = { l with latched := false, waitInactive :=
            if c.clearMode = .manualRearm then decide (l.filtered = .active) else l.waitInactive } ∧
          (∀ j, j ≠ i → t.lines.line.get j = s.lines.line.get j) ∧ sameOutside s t ∧ t.start = s.start ∧
          t.time = s.time ∧ t.store = s.store ∧
          (c.mute = false → c.holdMotion = false →
            t = { s with lines := t.lines, sup := t.sup } ∧
            (s.sup.reports.length < 32 → t.sup.reports = s.sup.reports ++
              (if c.report = true then
                [⟨s.stamp, .faultLine, i, 2 * 16777216 + actionCode c * 65536 + l.count⟩] else []))) ∧
          (∀ a, lastAction LineConfig.mute i s → c.holdMotion = false → pausedWith a s → pauseEnds a s t) ∧
          (lastAction LineConfig.holdMotion i s → c.mute = false → onlyHeldBack s → waitingStarts s t)))

/-! ## Chapter 10, manual control -/

/-- R173: MANUAL_ENTER is refused with the flag set and in CONFIG_FAULT. An idle bay takes the reset settings, a
held and closed port becomes the port setting, a settled assignment becomes the manual one with the sequencer's
state kept and the floor at the present stamp, and an unsettled one is abandoned by the path of its state. A next
record is discarded in every case. The tuned frequency is that of the assignment while it is tuned (entry 30). Of
several ports held and closed the lowest becomes the port setting (DESIGN CHOICE, entry 63), and on an end path in
MUTING, GUARD or REPOSITION the port setting is none (DESIGN CHOICE, entry 73).
R180: in the interval after MANUAL_EXIT(AT_NEXT) the manual assignment stays, its end and release stamp none, and a next
record that had its refreshed HOLD asked for is discarded, with a HOLD carrying none offered behind whatever is queued.
That it is offered too while that refreshed HOLD is on its way is DEDUCED (entry 82), and that the settings keep their
values, the RF order among them, is a DESIGN CHOICE (entry 100). -/
def Obligations.ManualEnterTakesOverTheBay : Prop :=
  ∀ s : State, s.sup.nvmPending = none →
    let reset (p : Option Nat) : Manual :=
      { flag := true, port := p, cls := 3, freq := none, power := none, programme := 0, rfOn := false,
        tuned := none }
    (s.manual.flag = true ∨ s.seq.state = .configFault →
      exec .manualEnter s = .next (onlyAnswers 23 .wrongState [] s)) ∧
    (s.manual.flag = false → s.seq.state ≠ .configFault → s.plan.next = none →
      (s.seq.current = none →
        (s.heldPort = none ∨ (s.seq.state ≠ .heldIdle ∧ s.seq.state ≠ .locked ∧ s.seq.state ≠ .matrixFault) →
          exec .manualEnter s = .next { s with manual := reset none, sup := answerTo 23 .done [] s.sup }) ∧
        (∀ p, s.heldPort = some p → (s.portRec p).mark.release = none →
          s.seq.state = .heldIdle ∨ s.seq.state = .locked ∨ s.seq.state = .matrixFault →
          exec .manualEnter s =
            .next { s with manual := reset (some p), sup := answerTo 23 .done [] s.sup })) ∧
      (∀ c p, s.seq.current = some c → c.source ≠ .manual → c.claim.state = .won → c.port = some p →
        s.ownHeld p = true → s.mayOffer = true → s.link.queue.length < 8 → s.sup.reports.length < 32 →
        ∃ t m, exec .manualEnter s = .next t ∧ sameBase s t ∧ t.row = s.row ∧ t.prot = s.prot ∧
          t.plan = { floor := s.stamp, next := none } ∧ t.seq = { s.seq with current := some m } ∧
          m.source = .manual ∧
          m.port = some p ∧ m.segEnd = none ∧ m.release = none ∧ m.freq = c.freq ∧ m.power = c.power ∧
          m.cls = c.cls ∧ m.programme = c.programme ∧
          t.manual = { flag := true, port := some p, cls := c.cls, freq := c.freq, power := some c.power,
                       programme := c.programme, rfOn := true,
                       tuned := if s.seq.tuneSub = .tuned then c.freq else none } ∧
          t.link.queue = s.link.queue ++ [{ frame := .hold p c.cls stampNone, parkedUntil := none,
                                            withdrawn := false, refresh := true }] ∧
          t.sup.reports = s.sup.reports ++ [match c.onAirCount with
            | some n => ⟨s.stamp, .entryEnded, sourceCode c.source, (s.time.elapsed - n) % 2 ^ 32⟩
            | none => ⟨s.stamp, .entryMissed, sourceCode c.source, c.segStart⟩] ∧
          t.sup.response.result = some .done) ∧
      (∀ c, s.seq.current = some c → c.source ≠ .manual → c.claim.state ≠ .won → s.seq.state = .guarding →
        ∃ t, exec .manualEnter s = .next t ∧ sameBase s t ∧ t.seq.current = none ∧
          t.seq.state = .guarding ∧ t.seq.tuneRequest = false ∧ t.plan.next = none ∧
          t.row.waiting = none ∧ t.manual = reset none ∧
          (s.prot.foldback = false → t.sup.reports = s.sup.reports) ∧
          t.sup.response.result = some .done) ∧
      (∀ c, s.seq.current = some c → c.source ≠ .manual → c.claim.state ≠ .won →
        s.seq.state = .muting ∨ s.seq.state = .ramping ∨ s.seq.state = .onAir ∨ s.seq.state = .restartHold ∨
          s.seq.state = .paused →
        ∃ t, exec .manualEnter s = .next t ∧ sameBase s t ∧ t.seq.current = none ∧ t.manual = reset none ∧
          t.seq.tuneRequest = false ∧ t.seq.tuneSub = .idle ∧ t.row.waiting = none ∧ t.plan.next = none ∧
          t.seq.state = (if s.seq.state = .restartHold ∨ s.seq.state = .paused then .guarding else .muting))) ∧
    (∀ c p a, s.manual.flag = false → s.seq.state ≠ .configFault → s.seq.current = some c →
      c.source = .manual → c.port = some p → s.plan.next = some a → a.keepsPort = true → a.chosen = some p →
      a.claim.begun = true → a.claim.state = .won ∨ a.claim.state = .unclaimed → s.ownHeld p = true →
      s.mayOffer = true → s.link.queue.length < 8 →
      let endless : Current := { c with toAssignment := { c.toAssignment with segEnd := none, release := none } }
      ∃ t, exec .manualEnter s = .next t ∧ sameBase s t ∧ t.row = s.row ∧ t.prot = s.prot ∧
        t.plan = { floor := s.stamp, next := none } ∧
        t.seq = { s.seq with current := some endless } ∧
        t.manual = { s.manual with flag := true, atNext := false } ∧
        t.link.queue.map TxEntry.frame = s.link.queue.map TxEntry.frame ++ [.hold p c.cls stampNone] ∧
        t.sup.reports = s.sup.reports ∧ t.sup.response.result = some .done) ∧
    (s.manual.flag = false → s.seq.state ≠ .configFault →
      ∃ t, exec .manualEnter s = .next t ∧ sameBase s t ∧ t.plan.next = none ∧ t.manual.flag = true ∧
        t.sup.response.result = some .done)

/-- R174 to R177: the orders' tests, in their order: the argument, the flag, a changeover in flight or a manual claim,
and the fault states; MANUAL_POWER and MANUAL_RF(OFF) make only the first two. What an accepted order does:
MANUAL_PORT offers the INTENT of its claim, for a port held already the refreshed HOLD alone, and is refused with BUSY
until the roll-call window has closed; MANUAL_TUNE and MANUAL_RF(ON) go through GUARD from an idle bay, MANUAL_TUNE
mutes a bay on the air toward the new frequency, MANUAL_POWER moves the target and on the air the ramp with it, and
MANUAL_RF(OFF) mutes a bay on the air and in REPOSITION leaves the row its motion. That MANUAL_RF(ON) is refused with
no frequency set is DEDUCED (entry 31), and so is the demand that MUTING starts from (entry 35). That a port held
already that is not the port setting has its claim recorded while its refreshed HOLD is on its way is the model's
(entry 65). That MANUAL_TUNE forms the assignment before the start state too, and begins its path only then, is the
model's choice (DESIGN CHOICE, entry 74). -/
def Obligations.ManualOrdersAreTestedAndHaveTheirEffects : Prop :=
  (∀ s : State, s.sup.nvmPending = none →
     let busy := s.seq.state.inFlight = true ∨
       ∃ m, s.hall.manualClaim = some m ∧ (m.claim.state = .queued ∨ m.claim.state = .inWindow)
     let order (c : Instr) (n : Nat) (bad : Prop) :=
       (bad → exec c s = .next (onlyAnswers n .badArgument [] s)) ∧
       (¬ bad → s.manual.flag = false → exec c s = .next (onlyAnswers n .wrongState [] s)) ∧
       (¬ bad → s.manual.flag = true → busy → exec c s = .next (onlyAnswers n .busy [] s)) ∧
       (¬ bad → s.manual.flag = true → ¬ busy →
         s.seq.state = .locked ∨ s.seq.state = .matrixFault ∨ s.seq.state = .configFault →
         exec c s = .next (onlyAnswers n .wrongState [] s))
     (∀ p k, order (.manualPort p k) 24 (31 < p ∨ k < 1 ∨ 3 < k)) ∧
     (∀ p k, p ≤ 31 → 1 ≤ k → k ≤ 3 → s.manual.flag = true → ¬ busy → s.seq.state ≠ .locked →
       s.seq.state ≠ .matrixFault → s.seq.state ≠ .configFault → s.start.step ≠ .done →
       exec (.manualPort p k) s = .next (onlyAnswers 24 .busy [] s)) ∧
     (∀ f, order (.manualTune f) 25 (f < s.cfg.fLo ∨ s.cfg.fHi < f)) ∧
     order .manualRfOn 27 False ∧
     (∀ u, u = 0 ∨ 6000 < u → exec (.manualPower u) s = .next (onlyAnswers 26 .badArgument [] s)) ∧
     (∀ u, 1 ≤ u → u ≤ 6000 → s.manual.flag = false →
       exec (.manualPower u) s = .next (onlyAnswers 26 .wrongState [] s)) ∧
     (s.manual.flag = false → exec .manualRfOff s = .next (onlyAnswers 27 .wrongState [] s))) ∧
  (∀ s : State, s.sup.nvmPending = none → s.manual.flag = true →
     let idle := s.seq.current = none ∧ (s.seq.state = .idle ∨ s.seq.state = .heldIdle) ∧
       s.seq.permit = false ∧ s.hall.manualClaim = none
     (∀ p k, idle → s.start.step = .done → p ≤ 31 → 1 ≤ k → k ≤ 3 →
       (s.available p k s.stamp s.manual.freq = false →
         exec (.manualPort p k) s = .next (onlyAnswers 24 .wrongState [] s)) ∧
       (s.available p k s.stamp s.manual.freq = true → s.ownHeld p = false → s.link.queue.length < 8 →
         ∃ t m, exec (.manualPort p k) s = .next t ∧ t.manual = { s.manual with cls := k } ∧
           t.hall = { s.hall with manualClaim := some m } ∧ m.port = p ∧ m.cls = k ∧ m.start = s.stamp ∧
           m.claim.state = .queued ∧
           t.link.queue = s.link.queue ++ [{ frame := .intent p k s.stamp, parkedUntil := none,
                                             withdrawn := false, refresh := false }] ∧
           t = { s with manual := t.manual, hall := t.hall, link := t.link,
                        sup := answerTo 24 .done [] s.sup }) ∧
       (s.available p k s.stamp s.manual.freq = true → s.ownHeld p = true → s.link.queue.length < 8 →
         ∃ t, exec (.manualPort p k) s = .next t ∧ t.manual = { s.manual with cls := k } ∧
           t.link.queue = s.link.queue ++ [{ frame := .hold p k stampNone, parkedUntil := none,
                                             withdrawn := false, refresh := true,
                                             asked := decide (s.manual.port ≠ some p) }] ∧
           (s.manual.port = some p → t.hall = s.hall) ∧
           (s.manual.port ≠ some p → ∃ m, t.hall = { s.hall with manualClaim := some m } ∧ m.port = p ∧
             m.cls = k ∧ m.start = s.stamp ∧ m.claim.state = .unclaimed ∧ m.claim.refreshAsked = true) ∧
           t = { s with manual := t.manual, hall := t.hall, link := t.link,
                        sup := answerTo 24 .done [] s.sup })) ∧
     (∀ c p k, s.seq.current = some c → c.source = .manual → s.seq.state = .onAir → s.start.step = .done →
       s.hall.manualClaim = none → p ≤ 31 → 1 ≤ k → k ≤ 3 →
       s.available p k s.stamp s.manual.freq = true → s.ownHeld p = true → s.manual.port = some p →
       s.link.queue.length < 8 →
       ∃ t d, exec (.manualPort p k) s = .next t ∧ t.manual = { s.manual with cls := k } ∧
         t.seq = { s.seq with current := some d } ∧ d.source = .manual ∧ d.cls = k ∧ d.port = some p ∧
         t.hall = s.hall ∧ t.row = s.row ∧
         t.link.queue = s.link.queue ++ [{ frame := .hold p k stampNone, parkedUntil := none,
                                           withdrawn := false, refresh := true }]) ∧
     (∀ f, idle → s.cfg.fLo ≤ f → f ≤ s.cfg.fHi →
       (s.manual.tuned = some f → exec (.manualTune f) s =
         .next { s with manual := { s.manual with freq := some f }, sup := answerTo 25 .done [] s.sup }) ∧
       (s.manual.tuned ≠ some f →
         ∃ t c, exec (.manualTune f) s = .next t ∧ sameBase s t ∧
           t.seq.state = (if s.started then .guarding else s.seq.state) ∧
           t.seq.current = some c ∧ c.source = .manual ∧ c.freq = some f ∧ c.port = s.manual.port ∧
           t.manual = { s.manual with freq := some f } ∧ t.row = s.row ∧ t.hall = s.hall)) ∧
     (∀ u, 1 ≤ u → u ≤ 6000 →
       (idle → exec (.manualPower u) s =
         .next { s with manual := { s.manual with power := some u }, sup := answerTo 26 .done [] s.sup }) ∧
       (∀ c p, s.seq.current = some c → s.manual.port = some p → s.seq.state = .paused →
         ∃ t d, exec (.manualPower u) s = .next t ∧ sameBase s t ∧ t.seq = { s.seq with current := some d } ∧
           d.power = u ∧ t.prot.target = min u (min s.cfg.rating (s.cfg.portMax p)) ∧
           t.manual = { s.manual with power := some u } ∧ t.row = s.row ∧ t.hall = s.hall) ∧
       (∀ c p, s.seq.current = some c → s.manual.port = some p →
         s.seq.state = .ramping ∨ s.seq.state = .onAir → s.seq.permit = true →
         let target := min u (min s.cfg.rating (s.cfg.portMax p))
         ∃ t, exec (.manualPower u) s = .next t ∧ sameBase s t ∧ t.prot.target = target ∧
           t.prot.step = (target + 9) / 10 ∧ t.seq.permit = true ∧
           t.seq.stepCount = min 10 (ceilDiv s.rampValue t.prot.step) ∧
           (s.seq.state = .onAir → t.seq.state = .onAir) ∧
           t.prot.demand = min (min target (t.seq.stepCount * t.prot.step)) (min t.prot.limit t.prot.cap) ∧
           t.manual = { s.manual with power := some u } ∧ t.row = s.row ∧ t.hall = s.hall)) ∧
     (∀ c f, s.seq.current = some c → c.source = .manual → s.seq.state = .onAir → s.seq.permit = true →
       s.hall.manualClaim = none → s.cfg.fLo ≤ f → f ≤ s.cfg.fHi → s.manual.tuned ≠ some f →
       ∃ t d, exec (.manualTune f) s = .next t ∧ sameBase s t ∧ t.seq.state = .muting ∧ t.seq.permit = true ∧
         mutesFrom s.prot.demand t ∧ t.seq.current = some d ∧ d.source = .manual ∧ d.freq = some f ∧
         d.port = s.manual.port ∧ t.manual = { s.manual with freq := some f } ∧ t.row = s.row ∧
         t.hall = s.hall) ∧
     (idle → (s.mayRadiate = false → exec .manualRfOn s = .next (onlyAnswers 27 .wrongState [] s)) ∧
       (s.mayRadiate = true → s.seq.state = .heldIdle → s.manual.rfOn = false →
         ∃ t c, exec .manualRfOn s = .next t ∧ sameBase s t ∧ t.seq.state = .guarding ∧
           t.seq.current = some c ∧ c.source = .manual ∧ c.port = s.manual.port ∧
           t.manual = { s.manual with rfOn := true } ∧ t.row = s.row) ∧
       (s.mayRadiate = true → s.manual.rfOn = true →
         exec .manualRfOn s = .next { s with sup := answerTo 27 .done [] s.sup })) ∧
     (s.seq.state = .ramping ∨ s.seq.state = .onAir → s.seq.permit = true →
       ∃ t, exec .manualRfOff s = .next t ∧ sameBase s t ∧ t.seq.state = .muting ∧ t.seq.permit = true ∧
         mutesFrom s.prot.demand t ∧ t.seq.muteFrom = s.time.osc ∧ t.seq.muteStep = 0 ∧
         t.seq.current = s.seq.current ∧ t.manual = { s.manual with rfOn := false } ∧ t.row = s.row ∧
         t.hall = s.hall) ∧
     (s.seq.state = .restartHold ∨ s.seq.state = .paused →
       ∃ t, exec .manualRfOff s = .next t ∧ sameBase s t ∧ t.seq.state = .guarding ∧ t.seq.holdEnd = none ∧
         t.seq.current = s.seq.current ∧ t.manual = { s.manual with rfOn := false }) ∧
     (∀ p, s.seq.state = .reposition → s.seq.rowSub ≠ .settling →
       s.row.motion = .opening p ∨ s.row.motion = .closing p →
       exec .manualRfOff s =
         .next { s with manual := { s.manual with rfOn := false }, sup := answerTo 27 .done [] s.sup }) ∧
     (s.seq.state = .idle ∨ s.seq.state = .heldIdle ∨ s.seq.state = .muting ∨ s.seq.state = .guarding ∨
         s.seq.state = .locked ∨ s.seq.state = .matrixFault ∨ s.seq.state = .configFault →
       exec .manualRfOff s =
         .next { s with manual := { s.manual with rfOn := false }, sup := answerTo 27 .done [] s.sup }))

/-- R179, R180, R134: MANUAL_EXIT is refused with the flag clear outside MATRIX_FAULT and there while the row check is
inconsistent. On a consistent row check it takes a bay without a current assignment out of MATRIX_FAULT, to IDLE, or
to HELD_IDLE with the closed port settled, unless its own pulse, settle or recovery open is still to end (DESIGN
CHOICE, entry 87), and held, or to LOCKED while a lockout is in force. While the planner cannot plan, NOW ends a
manual assignment on the air by MUTING and puts the settings back, and AT_NEXT leaves it running with the flag
cleared, in the interval of R180 (whose record is the model's, entry 58); while it can, NOW gives the bay to the
segment that applies, and with none ends the assignment by MUTING, whatever starts next. The demand that MUTING starts
from is DEDUCED (entry 35). That the row is left as it stands at the exit from MATRIX_FAULT, the rest reading of a
stray crosspoint too, is the model's choice (DESIGN CHOICE, entry 52). -/
def Obligations.ManualExitGivesTheBayBack : Prop :=
  ∀ s : State, s.sup.nvmPending = none →
    (s.manual.flag = false → s.seq.state ≠ .matrixFault →
      exec .manualExitNow s = .next (onlyAnswers 28 .wrongState [] s) ∧
        exec .manualExitAtNext s = .next (onlyAnswers 28 .wrongState [] s)) ∧
    (∀ k p, s.seq.state = .matrixFault → s.rowCheck = .inconsistent k p →
      exec .manualExitNow s = .next (onlyAnswers 28 .wrongState [] s) ∧
        exec .manualExitAtNext s = .next (onlyAnswers 28 .wrongState [] s)) ∧
    (s.manual.flag = true → s.seq.state ≠ .matrixFault → s.time.quality = .unset → s.plan.next = none →
      s.hall.manualClaim = none →
      (s.seq.current = none →
        let back : State :=
          { s with manual := Manual.initial, plan := { s.plan with floor := s.stamp },
                   sup := answerTo 28 .done [] s.sup }
        exec .manualExitNow s = .next back ∧ exec .manualExitAtNext s = .next back) ∧
      (∀ c, s.seq.current = some c → c.source = .manual →
        exec .manualExitAtNext s =
          .next { s with manual := { s.manual with flag := false, atNext := true },
                         plan := { s.plan with floor := s.stamp }, sup := answerTo 28 .done [] s.sup } ∧
        (s.seq.state = .onAir → s.seq.permit = true →
          ∃ t, exec .manualExitNow s = .next t ∧ sameBase s t ∧ t.seq.state = .muting ∧
            t.seq.permit = true ∧ t.seq.current = none ∧ mutesFrom s.prot.demand t ∧
            t.manual = Manual.initial ∧ t.plan = { floor := s.stamp, next := none } ∧
            t.row.points = s.row.points ∧
            (s.prot.foldback = false → t.sup = answerTo 28 .done [] s.sup)))) ∧
    (∀ x p, x = .manualExitNow ∨ x = .manualExitAtNext → s.seq.state = .matrixFault →
      s.rowCheck = .consistent p → s.seq.current = none → s.hall.yielding = [] →
      ∃ t, exec x s = .next t ∧ sameBase s t ∧ t.seq.current = none ∧ t.manual.flag = false ∧
        t.sup.response.result = some .done ∧
        (s.prot.lockout ≠ none → t.seq.state = .locked ∧ t.seq.permit = false) ∧
        (p = none → s.prot.lockout = none → t.seq.state = .idle ∧ t.row = s.row) ∧
        (∀ q, p = some q → (t.point q).settled = s.row.atRest q ∧ (t.point q).rest = .atClosed ∧
          (t.portRec q).mark.heldBy s.bay = true ∧
          (s.ownHeld q = false → (t.portRec q).mark = .held s.bay 3 none ∧
            (t.portRec q).standing = some .unconfirmed) ∧
          (s.prot.lockout = none → t.seq.state = .heldIdle))) ∧
    (∀ c g, s.manual.flag = true → s.seq.state = .onAir → s.seq.permit = true → s.time.quality ≠ .unset →
      s.start.step = .done → s.plan.next = none → s.hall.manualClaim = none → s.seq.current = some c →
      c.source = .manual → nextSegment s.store s.stamp (s.stamp + 86400) = some g → g.start ≤ s.stamp →
      s.stamp + leadOf s.cfg .full .full + s.cfg.minAir ≤ g.stop →
      ∃ t d, exec .manualExitNow s = .next t ∧ sameBase s t ∧ t.manual = Manual.initial ∧
        t.seq.current = some d ∧ d.source = .entry g.occ.number g.occ.day ∧ d.segStart = g.start ∧
        d.segEnd = some g.stop ∧ d.freq = some g.occ.body.freq ∧ t.seq.permit = true ∧
        (t.seq.state = .muting ∨ t.seq.state = .onAir)) ∧
    (∀ c, s.manual.flag = true → s.seq.state = .onAir → s.seq.permit = true → s.time.quality ≠ .unset →
      s.start.step = .done → s.plan.next = none → s.hall.manualClaim = none → s.seq.current = some c →
      c.source = .manual →
      (∀ g, nextSegment s.store s.stamp (s.stamp + 86400) = some g →
        s.stamp < g.start ∧ max g.start (s.stamp + leadOf s.cfg .full .full) + s.cfg.minAir ≤ g.stop) →
      ∃ t, exec .manualExitNow s = .next t ∧ sameBase s t ∧ t.manual = Manual.initial ∧
        t.seq.current = none ∧ t.seq.state = .muting ∧ t.seq.permit = true ∧
        mutesFrom s.prot.demand t)

/-! ## Chapter 11, the supervisor port, the NVM and the start -/

/-- R181: a transaction reads back the well-formed host command whose bytes it is, and bytes that spell a host
command are that command's own. One that ends before the last byte of a command is cut short, and no other is. That
bytes past the arguments do not match, and that a selector or a port count past its range is told at once, is DEDUCED
(entry 27), and that the lamp of SET_LAMP takes one byte is the model's choice (DESIGN CHOICE, entry 77). -/
def Obligations.TransactionsReadBackTheCommand : Prop :=
  (∀ (i : Instr) (bs : List Byte), i.wellFormed = true → encodeCommand i = some bs →
    readTransaction bs = i) ∧
  (∀ (i : Instr) (bs more : List Byte), i.wellFormed = true → encodeCommand i = some (bs ++ more) →
    more ≠ [] → readTransaction bs = .transactionCutShort) ∧
  (∀ (bs : List Byte) (i : Instr), readTransaction bs = i →
    (i.wellFormed = true ∧ encodeCommand i = some bs) ∨
      (i = .transactionCutShort ∧
        ∃ c more, Instr.wellFormed c = true ∧ encodeCommand c = some (bs ++ more) ∧ more ≠ []) ∨
      ∃ n args, bs = n :: args ∧ i = .unknownCommand n.toNat args)

/-- R181: every host command but RESTART advances the sequence count by one and is answered under its number; an
unknown one is refused with BAD_ARGUMENT and does nothing else, a transaction cut short does nothing at all, and
no event but the NVM's own answer and a reset touches the response or the count. A response goes out as its
sequence count, command number, result, length and return data (two bytes for the length: entry 7). That an unknown
command is refused so beside a pending NVM command too is DEDUCED (entry 27). R188: while an NVM command is pending a
host command other than SET_TIME, the six views, RESTART and the two NVM commands is refused with BUSY and does nothing
else. -/
def Obligations.CommandsAreAnsweredUnderTheirNumber : Prop :=
  (∀ (i : Instr) (n : Nat) (s t : State), hostNumber i = some n → exec i s = .next t →
    t.sup.sequence = (s.sup.sequence + 1) % 256 ∧ t.sup.response.sequence = (s.sup.sequence + 1) % 256 ∧
      t.sup.response.number = n ∧ t.sup.response.result ≠ none) ∧
  (∀ (i : Instr) (s t : State), touchesResponse i = false → exec i s = .next t →
    t.sup.sequence = s.sup.sequence ∧ t.sup.response = s.sup.response) ∧
  (∀ (n : Nat) (args : List Byte) (s : State),
    exec (.unknownCommand n args) s = .next (onlyAnswers n .badArgument [] s)) ∧
  (∀ s : State, exec .transactionCutShort s = .next s) ∧
  (∀ (i : Instr) (n : Nat) (s : State), hostNumber i = some n → s.sup.nvmPending ≠ none →
    n ∉ [1, 2, 12, 13, 14, 15, 29, 35, 36] → exec i s = .next (onlyAnswers n .busy [] s)) ∧
  (∀ (s : State) (r : Result), s.sup.response.result = some r →
    s.responseBytes = byte1 s.sup.response.sequence ++ byte1 s.sup.response.number ++
      byte1 (match r with
        | .done => 0
        | .busy => 1
        | .badArgument => 2
        | .wrongState => 3
        | .armed => 4
        | .full => 5
        | .notFound => 6
        | .stillActive => 7
        | .notStale => 8
        | .overlap => 9
        | .pending => 10) ++ byte2 s.sup.response.data.length ++ s.sup.response.data)

/-- R183 to R185: READ_REPORT takes the oldest report off the queue or returns the empty mark; CLEAR_FLAGS clears the
flags it names, SET_ENABLES replaces the five enables and SET_LAMP one lamp's setting; the interrupt line
follows the enabled flags and the queue. A report filed at a full queue is dropped and sets REPORT_LOST, and the four
condition flags follow the sequencer, the time quality and the manual flag; that READ_STATUS shows them as the bits 1,
2, 4 and 8 of one byte is DEDUCED (entry 7), and that a CLEAR_FLAGS or SET_ENABLES byte with spare bits set is taken
is the model's choice (DESIGN CHOICE, entry 27). A lamp is dark until the load ends; then it is lit while its source is
active and its blink phase on, and with invert while they are not. -/
def Obligations.ReportsFlagsEnablesAndLampsFollowTheirCommands : Prop :=
  (∀ (s : State) (k : ReportKind) (a d : Nat),
    (s.sup.reports.length < 32 → file k a d s =
      { s with sup := { s.sup with reports := s.sup.reports ++ [⟨s.stamp, k, a, d⟩] } }) ∧
    (32 ≤ s.sup.reports.length → file k a d s =
      { s with sup := { s.sup with sticky := { s.sup.sticky with reportLost := true } } })) ∧
  (∀ s : State, s.time.quality = .locked → s.time.silence ≠ none → s.time.pendingSet = none →
    32 ≤ s.sup.reports.length →
    ∃ t, exec .silenceTimerExpiry s = .next t ∧ t.sup.reports = s.sup.reports ∧
      t.sup.sticky = { s.sup.sticky with reportLost := true }) ∧
  (∀ s : State, (s.lockedFlag = true ↔ s.seq.state = .locked) ∧
    (s.matrixFaultFlag = true ↔ s.seq.state = .matrixFault) ∧
    (s.holdoverFlag = true ↔ s.time.quality = .holdover) ∧ s.manualFlag = s.manual.flag ∧
    s.conditionCode = (if s.seq.state = .locked then 1 else 0) + (if s.seq.state = .matrixFault then 2 else 0) +
      (if s.time.quality = .holdover then 4 else 0) + (if s.manual.flag then 8 else 0)) ∧
  (∀ (s : State) (i : Nat),
    let l := s.sup.lamps.get i
    let active := match l.source with
      | .onAir => s.seq.state = .onAir
      | .changeover => s.seq.state ∈ [SeqState.muting, .guarding, .reposition, .ramping]
      | .portHeld => ∃ p, p < 32 ∧ s.ownHeld p = true
      | .foldback => s.prot.foldback = true
      | .lockout => s.prot.lockout ≠ none
      | .anyFaultLine => ∃ j, j < 4 ∧ (s.lines.line.get j).latched = true
      | .timeNotLocked => s.time.quality ≠ .locked
      | .busFault => s.link.busFault = true
      | .tableMismatch => ∃ b, b < 16 ∧ (s.hall.peers.get b).mismatch = true
      | .always => True
      | .never => False
    let phase := match l.blink with
      | .steady => True
      | .slow => (s.time.osc - s.sup.blinkZero) % 1000 < 500
      | .fast => (s.time.osc - s.sup.blinkZero) % 250 < 125
    (s.start.step = .load → s.lampLit i = false) ∧
      (s.start.step ≠ .load → (s.lampLit i = true ↔ (l.invert = false ∧ active ∧ phase) ∨
        (l.invert = true ∧ ¬ (active ∧ phase))))) ∧
  ∀ s : State, s.sup.nvmPending = none →
    (∀ r rest, s.sup.reports = r :: rest → ∃ data, exec .readReport s =
        .next { s with sup := answerTo 30 .done data { s.sup with reports := rest } } ∧
      data = byte4 r.stamp ++ byte1 (reportKindCode r.kind) ++ byte1 r.subject ++ byte4 r.detail) ∧
    (s.sup.reports = [] → ∃ stamp, exec .readReport s = .next (onlyAnswers 30 .done
      (byte4 stamp ++ byte1 (reportKindCode .none) ++ byte1 0 ++ byte4 0) s)) ∧
    (∀ b : Byte, ∃ t, exec (.clearFlags b) s = .next t ∧
      t = { s with sup := answerTo 31 .done [] { s.sup with sticky := t.sup.sticky } } ∧
      (t.sup.sticky.reportLost = true ↔ s.sup.sticky.reportLost = true ∧ b.getLsbD 0 = false) ∧
      (t.sup.sticky.busFaultSeen = true ↔ s.sup.sticky.busFaultSeen = true ∧ b.getLsbD 1 = false) ∧
      (t.sup.sticky.tripSeen = true ↔ s.sup.sticky.tripSeen = true ∧ b.getLsbD 2 = false) ∧
      (t.sup.sticky.configFaultSeen = true ↔ s.sup.sticky.configFaultSeen = true ∧ b.getLsbD 3 = false)) ∧
    (∀ b : Byte, ∃ t, exec (.setEnables b) s = .next t ∧
      t = { s with sup := answerTo 32 .done [] { s.sup with enables := t.sup.enables } } ∧
      t.sup.enables = ⟨b.getLsbD 0, b.getLsbD 1, b.getLsbD 2, b.getLsbD 3, b.getLsbD 4⟩ ∧
      (t.interrupt = true ↔ (b.getLsbD 4 = true ∧ s.sup.reports ≠ []) ∨
        (b.getLsbD 0 = true ∧ s.sup.sticky.reportLost = true) ∨
        (b.getLsbD 1 = true ∧ s.sup.sticky.busFaultSeen = true) ∨
        (b.getLsbD 2 = true ∧ s.sup.sticky.tripSeen = true) ∨
        (b.getLsbD 3 = true ∧ s.sup.sticky.configFaultSeen = true))) ∧
    (∀ l a b v, 3 < l ∨ 10 < a ∨ 2 < b ∨ 1 < v →
      exec (.setLamp l a b v) s = .next (onlyAnswers 33 .badArgument [] s)) ∧
    (∀ l a b v, l ≤ 3 → a ≤ 10 → b ≤ 2 → v ≤ 1 → ∃ t, exec (.setLamp l a b v) s = .next t ∧
      t = { s with sup := answerTo 33 .done [] { s.sup with lamps := t.sup.lamps } } ∧
      lampSourceCode (t.sup.lamps.get l).source = a ∧ blinkCode (t.sup.lamps.get l).blink = b ∧
      (t.sup.lamps.get l).invert = decide (v = 1) ∧
      ∀ j, j ≠ l → t.sup.lamps.get j = s.sup.lamps.get j)

/-- R188: the tests of the NVM commands, the PENDING answer, the bytes a completed write leaves and a completed read
returns, NOT_FOUND after 20 ms without an acknowledgement, and the old or new value of each byte of a write that
was not acknowledged or was cut by a reset (which of the two is the model's free value, entry 10). That
BAD_ARGUMENT goes before BUSY is DEDUCED (entry 28), and that an event with no command pending changes nothing is the
model's (entry 2). -/
def Obligations.NvmCommandsPassThroughAndComplete : Prop :=
  ∀ s : State, nvmCanonical s →
    let start (c : Instr) (n a : Nat) (w : Option (List Byte)) (count : Nat) :=
      (count < 1 ∨ 16 < count ∨ 4096 < a + count → exec c s = .next (onlyAnswers n .badArgument [] s)) ∧
      (1 ≤ count → count ≤ 16 → a + count ≤ 4096 →
        (s.start.step = .load ∨ s.sup.nvmPending ≠ none → exec c s = .next (onlyAnswers n .busy [] s)) ∧
        (s.start.step ≠ .load → s.sup.nvmPending = none →
          exec c s = .next { s with sup := { answerTo n .pending [] s.sup with
            nvmPending := some { address := a, write := w, count := count,
                                 sequence := (s.sup.sequence + 1) % 256,
                                 deadline := s.time.osc + 20 } } }))
    let oldOrNew (t : State) (a : Nat) (data : List Byte) :=
      (∀ i x, data[i]? = some x → t.nvm.read (a + i) = x ∨ t.nvm.read (a + i) = s.nvm.read (a + i)) ∧
      ∀ b, b < a ∨ a + data.length ≤ b → t.nvm.read b = s.nvm.read b
    (∀ a data, start (.nvmWrite a data) 35 a (some data) data.length) ∧
    (∀ a n, start (.nvmRead a n) 36 a none n) ∧
    (s.sup.nvmPending = none → exec .nvmCommandComplete s = .next s ∧ exec .nvmAckTimeout s = .next s) ∧
    (∀ k data, s.sup.nvmPending = some k → k.write = some data →
      (∃ t, exec .nvmCommandComplete s = .next t ∧ nvmCanonical t ∧
        t = { s with nvm := t.nvm, sup := { s.sup with
          nvmPending := none,
          response := { sequence := k.sequence, number := 35, result := some .done, data := [] } } } ∧
        (∀ i x, data[i]? = some x → t.nvm.read (k.address + i) = x) ∧
        ∀ b, b < k.address ∨ k.address + data.length ≤ b → t.nvm.read b = s.nvm.read b) ∧
      (∃ t, exec .nvmAckTimeout s = .next t ∧ nvmCanonical t ∧ oldOrNew t k.address data ∧
        t = { s with nvm := t.nvm, free := t.free, time := t.time, sup := { s.sup with
          nvmPending := none,
          response := { sequence := k.sequence, number := 35, result := some .notFound,
                        data := [] } } }) ∧
      ∃ t, exec .resetPin s = .next t ∧ nvmCanonical t ∧ oldOrNew t k.address data) ∧
    (∀ k, s.sup.nvmPending = some k → k.write = none →
      (∃ t, exec .nvmCommandComplete s = .next t ∧
        t = { s with sup := { s.sup with nvmPending := none, response := t.sup.response } } ∧
        t.sup.response.sequence = k.sequence ∧ t.sup.response.number = 36 ∧
        t.sup.response.result = some .done ∧ t.sup.response.data.length = k.count ∧
        ∀ i, i < k.count → t.sup.response.data[i]? = some (s.nvm.read (k.address + i))) ∧
      ∃ t, exec .nvmAckTimeout s = .next t ∧ t.nvm = s.nvm ∧ t.sup.nvmPending = none ∧
        t.sup.response = { sequence := k.sequence, number := 36, result := some .notFound, data := [] })

/-- R16, R37, R38, R57, R74, R107, R118, R143, R162, R170, R184, R189: what each of the four resets leaves. RF is off,
every queue, flag and timer is back at its value, RESTARTED carries the cause, the crosspoints keep their
positions and read what their contacts say (entry 39), and HOST_RESTART keeps the time, the schedule store and the own
suspect list; it is refused with BUSY while an NVM command is pending. That the inputs and the waiting commands stay
and the oscillator runs on over a HOST_RESTART is the model's (entry 29), and that the second last counted is
remembered over it is DEDUCED (entry 17). -/
def Obligations.EveryResetLeavesItsValues : Prop :=
  ∀ s : State,
    let common (t : State) (r : ResetCause) :=
      t.seq.state = .idle ∧ t.seq.permit = false ∧ t.seq.clearance = false ∧ t.seq.current = none ∧
      t.seq.tuneRequest = false ∧ t.seq.tuneSub = .idle ∧ t.seq.programme = 0 ∧ t.prot.demand = 0 ∧
      t.prot.trips = [] ∧ t.prot.lockout = none ∧ t.prot.lastLockout = none ∧ t.prot.last = none ∧
      t.prot.foldback = false ∧ t.prot.limit = t.prot.target ∧ t.prot.cap = t.prot.target ∧
      t.prot.capState = .full ∧ t.prot.pairFlag = false ∧ t.prot.txDropArmed = false ∧
      t.prot.proof = none ∧ t.plan = { floor := t.stamp, next := none } ∧ t.link.engine = .sync ∧
      t.link.queue = [] ∧ t.link.resend = 0 ∧ t.link.busFault = false ∧ t.link.drops = 0 ∧
      (∀ p, p < 32 → (t.portRec p).mark = .free ∧ (t.portRec p).suspect = none ∧
        (t.portRec p).lastEcho = .none) ∧
      (∀ b, b < 16 → (t.hall.peers.get b).presence = .absent ∧ (t.hall.peers.get b).mismatch = false) ∧
      t.hall.conflicts = [] ∧ t.hall.manualClaim = none ∧ t.row.motion = .still ∧ t.row.waiting = none ∧
      (∀ p, p < 32 → (t.point p).reading = readingOf (s.inputs.contacts.get p).1 (s.inputs.contacts.get p).2 ∧
        (t.point p).defect = none ∧ (t.point p).settled = false ∧ (t.point p).lastSample = none) ∧
      (∀ i, i < 4 → t.lines.line.get i = { lastPin := none, filtered := .unknown, latched := false,
                                           waitInactive := false, count := 0 }) ∧
      t.manual = { flag := false, port := none, cls := 3, freq := none, power := none, programme := 0,
                   rfOn := false, tuned := none } ∧
      t.sup.sequence = 0 ∧ t.sup.response.result = none ∧ t.sup.nvmPending = none ∧
      t.sup.sticky = ⟨false, false, false, false⟩ ∧ t.sup.enables = ⟨false, false, false, false, false⟩ ∧
      t.start.reason = r ∧ t.start.step = .load ∧ t.start.outcome = none ∧
      t.start.bay = s.inputs.strap % 16 ∧ t.inputs = s.inputs ∧ t.pending = s.pending
    let cold (c : Instr) (r : ResetCause) := ∃ t, exec c s = .next t ∧ common t r ∧ t.stamp = 0 ∧
      t.time.elapsed = 0 ∧ t.time.quality = .unset ∧ t.time.pendingSet = none ∧ t.time.silence = none ∧
      t.time.run = 0 ∧ t.sup.reports = [⟨0, .restarted, 0, resetCode r⟩] ∧
      (∀ i, t.store.bank0.get i = none ∧ t.store.bank1.get i = none) ∧ t.store.oneActive = false ∧
      t.store.pendingState = .editable ∧ t.store.switchStamp = none ∧ t.store.lastCheck = .none ∧
      t.store.overrides = [] ∧ t.hall.suspects = [] ∧ t.hall.maint = []
    cold .powerOn .powerOn ∧ cold .resetPin .resetPin ∧ cold .supplyLow .supplyLow ∧
    (s.sup.nvmPending ≠ none → exec .restart s = .next (onlyAnswers 34 .busy [] s)) ∧
    (s.sup.nvmPending = none → ∃ t, exec .restart s = .next t ∧ common t .hostRestart ∧
      t.time = { s.time with pendingSet := none } ∧ t.nvm = s.nvm ∧ t.hall.suspects = s.hall.suspects ∧
      t.hall.maint.map MaintEntry.port =
        (s.hall.maint.filter (fun e => decide (e.state = .held))).map MaintEntry.port ∧
      (s.store.pendingState ≠ .checking → t.store = s.store ∧
        t.sup.reports = [⟨s.stamp, .restarted, 0, 3⟩]) ∧
      (s.store.pendingState = .checking → t.store = { s.store with
          pendingState := .editable, commitTarget := none, checkEnd := none, lastCheck := .notDone } ∧
        t.sup.reports = [⟨s.stamp, .restarted, 0, 3⟩, ⟨s.stamp, .bankCheckDone, 0, 3 * 65536⟩]))

/-- R118, R142, R143, R186, R187, R190: the end of the load, the re-read and the end of the roll-call window. A block
that is not acknowledged, whose check word does not match or whose clamped values fail a test gives the built-in
values, CONFIG_FAULT and its sticky flag; any other gives the values its bytes store, each clamped into its range,
with LOADED when none was changed and CLAMPED when one was. A row read at once goes on to the roll call, in IDLE,
HELD_IDLE or, with several crosspoints closed or one in conflict, MATRIX_FAULT, and in CONFIG_FAULT there is no
current assignment (R121); a crosspoint in travel is read again after T_travel. That the readings are those at the end
of the load is DEDUCED (entry 39), and so is that a manual assignment formed before the load takes the loaded rating
(entry 83). That the loaded lamp settings overwrite a SET_LAMP given before (entry 66), and that the path of a
MANUAL_TUNE given before the start state begins at it (entry 74), are the model's choices (DESIGN CHOICE); that an
event brings its own instant, and does nothing outside its step, is the model's (entry 2). -/
def Obligations.TheStartSequenceLoadsReadsAndCalls : Prop :=
  ∀ s : State,
    (∀ ack, s.start.step ≠ .load → exec (.configLoadEnd ack) s = .next s) ∧
    (s.start.step ≠ .startUpRead → exec .startUpReread s = .next s) ∧
    (s.start.step ≠ .rollCall → exec .rollCallWindowEnd s = .next s) ∧
    (∀ ack, s.start.step = .load → ∃ t, exec (.configLoadEnd ack) s = .next t ∧ sameOutside s t ∧
      t.time = s.time ∧ t.store = s.store ∧ t.lines = s.lines ∧ t.start.bay = s.start.bay ∧
      t.start.reason = s.start.reason ∧ t.sup.lamps = t.start.params.lamps ∧
      (ack = false ∨ crcBytes (s.nvm.readAll 0 272) ≠ s.nvm.readAll 272 2 →
        t.start.outcome = some .configFault ∧ t.start.params = Params.builtIn ∧
          t.sup.sticky.configFaultSeen = true) ∧
      (t.start.outcome ≠ some .configFault → ack = true ∧
        crcBytes (s.nvm.readAll 0 272) = s.nvm.readAll 272 2 ∧ paramsSound t.start.params ∧
        t.start.params.signature = (crc (s.nvm.readAll 48 224)).toNat ∧
        t.sup.sticky.configFaultSeen = s.sup.sticky.configFaultSeen) ∧
      (∃ c rows, blockGives s.nvm c rows ∧
        (blockPasses ack s.nvm c rows → t.start.params = c ∧
          (blockPlain s.nvm c rows → t.start.outcome = some .loaded) ∧
          (¬ blockPlain s.nvm c rows → t.start.outcome = some .clamped)) ∧
        (¬ blockPasses ack s.nvm c rows → t.start.outcome = some .configFault ∧
          t.start.params = Params.builtIn ∧ t.sup.sticky.configFaultSeen = true)) ∧
      ((∃ p, p < 32 ∧ (s.point p).reading = .travel) → t.start.step = .startUpRead ∧
        t.start.rereadAt = some (s.time.osc + t.start.params.tTravel) ∧
        t.seq = { s.seq with current := t.seq.current } ∧
        (∀ c, s.seq.current = some c → c.source ≠ .manual → t.seq = s.seq) ∧
        (s.seq.current = none → t.seq = s.seq) ∧
        (∀ c, s.seq.current = some c → c.source = .manual → ∃ d, t.seq.current = some d ∧
          d.source = .manual ∧ d.power = s.manual.power.getD t.start.params.rating)) ∧
      ((∀ p, p < 32 → (s.point p).reading ≠ .travel) → t.start.step = .rollCall ∧
        t.start.windowEnd = some (s.time.osc + 1000) ∧
        (s.prot.lockout = none →
          (t.start.outcome = some .configFault → t.seq.state = .configFault ∧ t.seq.current = none) ∧
          (t.start.outcome ≠ some .configFault →
            ((∀ p, p < 32 → (s.point p).reading = .atOpen) →
              t.seq.state = (if s.seq.current = none then .idle else .guarding)) ∧
            (∀ p, p < 32 → (s.point p).reading = .atClosed →
              (∀ q, q < 32 → q ≠ p → (s.point q).reading = .atOpen) → (∀ e ∈ s.hall.maint, e.port ≠ p) →
              t.seq.state = (if s.seq.current = none then .heldIdle else .guarding) ∧
                (t.point p).settled = true ∧
                (t.portRec p).mark = .held s.bay 3 none ∧ (t.portRec p).standing = some .unconfirmed) ∧
            ((∃ p, p < 32 ∧ (s.point p).reading = .conflict) →
              t.seq.state = .matrixFault ∧ t.seq.tuneRequest = false ∧ t.seq.tuneTimer = none) ∧
            ((∃ p q, p < q ∧ q < 32 ∧ (s.point p).reading = .atClosed ∧ (s.point q).reading = .atClosed) →
              t.seq.state = .matrixFault))))) ∧
    (∀ r d, s.start.step = .startUpRead → s.row.firstReadings = some r → s.start.rereadAt = some d →
      ∃ t, exec .startUpReread s = .next t ∧ sameOutside s t ∧ t.store = s.store ∧ t.lines = s.lines ∧
        t.time = { s.time with osc := max s.time.osc d } ∧ t.start.step = .rollCall ∧
        t.start.windowEnd = some (max s.time.osc d + 1000) ∧ t.row.firstReadings = none ∧
        t.row.watching = true ∧
        (∀ p, p < 32 → r.get p = .travel → (s.point p).reading = .travel →
          (t.point p).defect = some .start)) ∧
    (∀ d, s.start.step = .rollCall → s.start.windowEnd = some d →
      ∃ t, exec .rollCallWindowEnd s = .next t ∧ sameOutside s t ∧ t.store = s.store ∧ t.lines = s.lines ∧
        t.time = { s.time with osc := max s.time.osc d } ∧
        t.start = { s.start with step := .done, windowEnd := none } ∧
        (s.time.quality = .unset → t = { s with time := t.time, start := t.start,
                                                plan := { s.plan with floor := s.stamp } }))

/-- R122, R151, R183, R188: no step puts power on without the RF permit, overfills the report queue or takes the NVM
out of its canonical form. -/
def Obligations.EveryStepKeepsPowerReportsAndNvmInBounds : Prop :=
  ∀ s t : State, noPowerWithoutPermit s → reportsFit s → nvmCanonical s → step s = .next t →
    noPowerWithoutPermit t ∧ reportsFit t ∧ nvmCanonical t

/-- The invariants of this list hold at reset. The reset values the spec does not give (entries 3 to 6) play no
part in it but for the empty NVM, which is the model's choice. -/
def Obligations.TheInvariantsHoldAtReset : Prop :=
  overridesApart State.reset ∧ serviceChecked State.reset ∧ slotsTimed State.reset ∧ queueFits State.reset ∧
    noPowerWithoutPermit State.reset ∧ reportsFit State.reset ∧ nvmCanonical State.reset
end

