-- ==== Sys2Proof/Laws/State.lean ====
section
/-! SUPPORT. One lemma per field per update of the state: the field an update rewrites, and that it leaves every
other as it was. Then the same for the operations of every block that write one field. -/

namespace Sys2Proof.Machine

/-! ### setSeq -/

@[simp] theorem State.setSeq_time (f : Sequencer → Sequencer) (s : State) : (s.setSeq f).time = s.time := rfl
@[simp] theorem State.setSeq_store (f : Sequencer → Sequencer) (s : State) :
    (s.setSeq f).store = s.store := rfl
@[simp] theorem State.setSeq_plan (f : Sequencer → Sequencer) (s : State) : (s.setSeq f).plan = s.plan := rfl
@[simp] theorem State.setSeq_link (f : Sequencer → Sequencer) (s : State) : (s.setSeq f).link = s.link := rfl
@[simp] theorem State.setSeq_hall (f : Sequencer → Sequencer) (s : State) : (s.setSeq f).hall = s.hall := rfl
@[simp] theorem State.setSeq_row (f : Sequencer → Sequencer) (s : State) : (s.setSeq f).row = s.row := rfl
@[simp] theorem State.setSeq_seq (f : Sequencer → Sequencer) (s : State) : (s.setSeq f).seq = f s.seq := rfl
@[simp] theorem State.setSeq_manual (f : Sequencer → Sequencer) (s : State) :
    (s.setSeq f).manual = s.manual := rfl
@[simp] theorem State.setSeq_prot (f : Sequencer → Sequencer) (s : State) : (s.setSeq f).prot = s.prot := rfl
@[simp] theorem State.setSeq_lines (f : Sequencer → Sequencer) (s : State) :
    (s.setSeq f).lines = s.lines := rfl
@[simp] theorem State.setSeq_sup (f : Sequencer → Sequencer) (s : State) : (s.setSeq f).sup = s.sup := rfl
@[simp] theorem State.setSeq_start (f : Sequencer → Sequencer) (s : State) :
    (s.setSeq f).start = s.start := rfl
@[simp] theorem State.setSeq_nvm (f : Sequencer → Sequencer) (s : State) : (s.setSeq f).nvm = s.nvm := rfl
@[simp] theorem State.setSeq_inputs (f : Sequencer → Sequencer) (s : State) :
    (s.setSeq f).inputs = s.inputs := rfl
@[simp] theorem State.setSeq_free (f : Sequencer → Sequencer) (s : State) : (s.setSeq f).free = s.free := rfl
@[simp] theorem State.setSeq_pending (f : Sequencer → Sequencer) (s : State) :
    (s.setSeq f).pending = s.pending := rfl

/-! ### setRow -/

@[simp] theorem State.setRow_time (f : RowDriver → RowDriver) (s : State) : (s.setRow f).time = s.time := rfl
@[simp] theorem State.setRow_store (f : RowDriver → RowDriver) (s : State) :
    (s.setRow f).store = s.store := rfl
@[simp] theorem State.setRow_plan (f : RowDriver → RowDriver) (s : State) : (s.setRow f).plan = s.plan := rfl
@[simp] theorem State.setRow_link (f : RowDriver → RowDriver) (s : State) : (s.setRow f).link = s.link := rfl
@[simp] theorem State.setRow_hall (f : RowDriver → RowDriver) (s : State) : (s.setRow f).hall = s.hall := rfl
@[simp] theorem State.setRow_row (f : RowDriver → RowDriver) (s : State) : (s.setRow f).row = f s.row := rfl
@[simp] theorem State.setRow_seq (f : RowDriver → RowDriver) (s : State) : (s.setRow f).seq = s.seq := rfl
@[simp] theorem State.setRow_manual (f : RowDriver → RowDriver) (s : State) :
    (s.setRow f).manual = s.manual := rfl
@[simp] theorem State.setRow_prot (f : RowDriver → RowDriver) (s : State) : (s.setRow f).prot = s.prot := rfl
@[simp] theorem State.setRow_lines (f : RowDriver → RowDriver) (s : State) :
    (s.setRow f).lines = s.lines := rfl
@[simp] theorem State.setRow_sup (f : RowDriver → RowDriver) (s : State) : (s.setRow f).sup = s.sup := rfl
@[simp] theorem State.setRow_start (f : RowDriver → RowDriver) (s : State) :
    (s.setRow f).start = s.start := rfl
@[simp] theorem State.setRow_nvm (f : RowDriver → RowDriver) (s : State) : (s.setRow f).nvm = s.nvm := rfl
@[simp] theorem State.setRow_inputs (f : RowDriver → RowDriver) (s : State) :
    (s.setRow f).inputs = s.inputs := rfl
@[simp] theorem State.setRow_free (f : RowDriver → RowDriver) (s : State) : (s.setRow f).free = s.free := rfl
@[simp] theorem State.setRow_pending (f : RowDriver → RowDriver) (s : State) :
    (s.setRow f).pending = s.pending := rfl

/-! ### setManual -/

@[simp] theorem State.setManual_time (f : Manual → Manual) (s : State) : (s.setManual f).time = s.time := rfl
@[simp] theorem State.setManual_store (f : Manual → Manual) (s : State) :
    (s.setManual f).store = s.store := rfl
@[simp] theorem State.setManual_plan (f : Manual → Manual) (s : State) : (s.setManual f).plan = s.plan := rfl
@[simp] theorem State.setManual_link (f : Manual → Manual) (s : State) : (s.setManual f).link = s.link := rfl
@[simp] theorem State.setManual_hall (f : Manual → Manual) (s : State) : (s.setManual f).hall = s.hall := rfl
@[simp] theorem State.setManual_row (f : Manual → Manual) (s : State) : (s.setManual f).row = s.row := rfl
@[simp] theorem State.setManual_seq (f : Manual → Manual) (s : State) : (s.setManual f).seq = s.seq := rfl
@[simp] theorem State.setManual_manual (f : Manual → Manual) (s : State) :
    (s.setManual f).manual = f s.manual := rfl
@[simp] theorem State.setManual_prot (f : Manual → Manual) (s : State) : (s.setManual f).prot = s.prot := rfl
@[simp] theorem State.setManual_lines (f : Manual → Manual) (s : State) :
    (s.setManual f).lines = s.lines := rfl
@[simp] theorem State.setManual_sup (f : Manual → Manual) (s : State) : (s.setManual f).sup = s.sup := rfl
@[simp] theorem State.setManual_start (f : Manual → Manual) (s : State) :
    (s.setManual f).start = s.start := rfl
@[simp] theorem State.setManual_nvm (f : Manual → Manual) (s : State) : (s.setManual f).nvm = s.nvm := rfl
@[simp] theorem State.setManual_inputs (f : Manual → Manual) (s : State) :
    (s.setManual f).inputs = s.inputs := rfl
@[simp] theorem State.setManual_free (f : Manual → Manual) (s : State) : (s.setManual f).free = s.free := rfl
@[simp] theorem State.setManual_pending (f : Manual → Manual) (s : State) :
    (s.setManual f).pending = s.pending := rfl

/-! ### setSup -/

@[simp] theorem State.setSup_time (f : Supervisor → Supervisor) (s : State) :
    (s.setSup f).time = s.time := rfl
@[simp] theorem State.setSup_store (f : Supervisor → Supervisor) (s : State) :
    (s.setSup f).store = s.store := rfl
@[simp] theorem State.setSup_plan (f : Supervisor → Supervisor) (s : State) :
    (s.setSup f).plan = s.plan := rfl
@[simp] theorem State.setSup_link (f : Supervisor → Supervisor) (s : State) :
    (s.setSup f).link = s.link := rfl
@[simp] theorem State.setSup_hall (f : Supervisor → Supervisor) (s : State) :
    (s.setSup f).hall = s.hall := rfl
@[simp] theorem State.setSup_row (f : Supervisor → Supervisor) (s : State) : (s.setSup f).row = s.row := rfl
@[simp] theorem State.setSup_seq (f : Supervisor → Supervisor) (s : State) : (s.setSup f).seq = s.seq := rfl
@[simp] theorem State.setSup_manual (f : Supervisor → Supervisor) (s : State) :
    (s.setSup f).manual = s.manual := rfl
@[simp] theorem State.setSup_prot (f : Supervisor → Supervisor) (s : State) :
    (s.setSup f).prot = s.prot := rfl
@[simp] theorem State.setSup_lines (f : Supervisor → Supervisor) (s : State) :
    (s.setSup f).lines = s.lines := rfl
@[simp] theorem State.setSup_sup (f : Supervisor → Supervisor) (s : State) : (s.setSup f).sup = f s.sup := rfl
@[simp] theorem State.setSup_start (f : Supervisor → Supervisor) (s : State) :
    (s.setSup f).start = s.start := rfl
@[simp] theorem State.setSup_nvm (f : Supervisor → Supervisor) (s : State) : (s.setSup f).nvm = s.nvm := rfl
@[simp] theorem State.setSup_inputs (f : Supervisor → Supervisor) (s : State) :
    (s.setSup f).inputs = s.inputs := rfl
@[simp] theorem State.setSup_free (f : Supervisor → Supervisor) (s : State) :
    (s.setSup f).free = s.free := rfl
@[simp] theorem State.setSup_pending (f : Supervisor → Supervisor) (s : State) :
    (s.setSup f).pending = s.pending := rfl

/-! ### setInputs -/

@[simp] theorem State.setInputs_time (f : Inputs → Inputs) (s : State) : (s.setInputs f).time = s.time := rfl
@[simp] theorem State.setInputs_store (f : Inputs → Inputs) (s : State) :
    (s.setInputs f).store = s.store := rfl
@[simp] theorem State.setInputs_plan (f : Inputs → Inputs) (s : State) : (s.setInputs f).plan = s.plan := rfl
@[simp] theorem State.setInputs_link (f : Inputs → Inputs) (s : State) : (s.setInputs f).link = s.link := rfl
@[simp] theorem State.setInputs_hall (f : Inputs → Inputs) (s : State) : (s.setInputs f).hall = s.hall := rfl
@[simp] theorem State.setInputs_row (f : Inputs → Inputs) (s : State) : (s.setInputs f).row = s.row := rfl
@[simp] theorem State.setInputs_seq (f : Inputs → Inputs) (s : State) : (s.setInputs f).seq = s.seq := rfl
@[simp] theorem State.setInputs_manual (f : Inputs → Inputs) (s : State) :
    (s.setInputs f).manual = s.manual := rfl
@[simp] theorem State.setInputs_prot (f : Inputs → Inputs) (s : State) : (s.setInputs f).prot = s.prot := rfl
@[simp] theorem State.setInputs_lines (f : Inputs → Inputs) (s : State) :
    (s.setInputs f).lines = s.lines := rfl
@[simp] theorem State.setInputs_sup (f : Inputs → Inputs) (s : State) : (s.setInputs f).sup = s.sup := rfl
@[simp] theorem State.setInputs_start (f : Inputs → Inputs) (s : State) :
    (s.setInputs f).start = s.start := rfl
@[simp] theorem State.setInputs_nvm (f : Inputs → Inputs) (s : State) : (s.setInputs f).nvm = s.nvm := rfl
@[simp] theorem State.setInputs_inputs (f : Inputs → Inputs) (s : State) :
    (s.setInputs f).inputs = f s.inputs := rfl
@[simp] theorem State.setInputs_free (f : Inputs → Inputs) (s : State) : (s.setInputs f).free = s.free := rfl
@[simp] theorem State.setInputs_pending (f : Inputs → Inputs) (s : State) :
    (s.setInputs f).pending = s.pending := rfl

/-! ### setLink -/

@[simp] theorem State.setLink_time (f : Link → Link) (s : State) : (s.setLink f).time = s.time := rfl
@[simp] theorem State.setLink_store (f : Link → Link) (s : State) : (s.setLink f).store = s.store := rfl
@[simp] theorem State.setLink_plan (f : Link → Link) (s : State) : (s.setLink f).plan = s.plan := rfl
@[simp] theorem State.setLink_link (f : Link → Link) (s : State) :
    (s.setLink f).link = (f s.link).retime s.time.osc := rfl
@[simp] theorem State.setLink_hall (f : Link → Link) (s : State) : (s.setLink f).hall = s.hall := rfl
@[simp] theorem State.setLink_row (f : Link → Link) (s : State) : (s.setLink f).row = s.row := rfl
@[simp] theorem State.setLink_seq (f : Link → Link) (s : State) : (s.setLink f).seq = s.seq := rfl
@[simp] theorem State.setLink_manual (f : Link → Link) (s : State) : (s.setLink f).manual = s.manual := rfl
@[simp] theorem State.setLink_prot (f : Link → Link) (s : State) : (s.setLink f).prot = s.prot := rfl
@[simp] theorem State.setLink_lines (f : Link → Link) (s : State) : (s.setLink f).lines = s.lines := rfl
@[simp] theorem State.setLink_sup (f : Link → Link) (s : State) : (s.setLink f).sup = s.sup := rfl
@[simp] theorem State.setLink_start (f : Link → Link) (s : State) : (s.setLink f).start = s.start := rfl
@[simp] theorem State.setLink_nvm (f : Link → Link) (s : State) : (s.setLink f).nvm = s.nvm := rfl
@[simp] theorem State.setLink_inputs (f : Link → Link) (s : State) : (s.setLink f).inputs = s.inputs := rfl
@[simp] theorem State.setLink_free (f : Link → Link) (s : State) : (s.setLink f).free = s.free := rfl
@[simp] theorem State.setLink_pending (f : Link → Link) (s : State) : (s.setLink f).pending = s.pending := rfl

/-! ### setFloor -/

@[simp] theorem State.setFloor_time (x : Nat) (s : State) : (s.setFloor x).time = s.time := rfl
@[simp] theorem State.setFloor_store (x : Nat) (s : State) : (s.setFloor x).store = s.store := rfl
@[simp] theorem State.setFloor_plan (x : Nat) (s : State) :
    (s.setFloor x).plan = { s.plan with floor := x } := rfl
@[simp] theorem State.setFloor_link (x : Nat) (s : State) : (s.setFloor x).link = s.link := rfl
@[simp] theorem State.setFloor_hall (x : Nat) (s : State) : (s.setFloor x).hall = s.hall := rfl
@[simp] theorem State.setFloor_row (x : Nat) (s : State) : (s.setFloor x).row = s.row := rfl
@[simp] theorem State.setFloor_seq (x : Nat) (s : State) : (s.setFloor x).seq = s.seq := rfl
@[simp] theorem State.setFloor_manual (x : Nat) (s : State) : (s.setFloor x).manual = s.manual := rfl
@[simp] theorem State.setFloor_prot (x : Nat) (s : State) : (s.setFloor x).prot = s.prot := rfl
@[simp] theorem State.setFloor_lines (x : Nat) (s : State) : (s.setFloor x).lines = s.lines := rfl
@[simp] theorem State.setFloor_sup (x : Nat) (s : State) : (s.setFloor x).sup = s.sup := rfl
@[simp] theorem State.setFloor_start (x : Nat) (s : State) : (s.setFloor x).start = s.start := rfl
@[simp] theorem State.setFloor_nvm (x : Nat) (s : State) : (s.setFloor x).nvm = s.nvm := rfl
@[simp] theorem State.setFloor_inputs (x : Nat) (s : State) : (s.setFloor x).inputs = s.inputs := rfl
@[simp] theorem State.setFloor_free (x : Nat) (s : State) : (s.setFloor x).free = s.free := rfl
@[simp] theorem State.setFloor_pending (x : Nat) (s : State) : (s.setFloor x).pending = s.pending := rfl

/-! ### reach -/

@[simp] theorem State.reach_time (x : Nat) (s : State) :
    (s.reach x).time = { s.time with osc := max s.time.osc x } := rfl
@[simp] theorem State.reach_store (x : Nat) (s : State) : (s.reach x).store = s.store := rfl
@[simp] theorem State.reach_plan (x : Nat) (s : State) : (s.reach x).plan = s.plan := rfl
@[simp] theorem State.reach_link (x : Nat) (s : State) : (s.reach x).link = s.link := rfl
@[simp] theorem State.reach_hall (x : Nat) (s : State) : (s.reach x).hall = s.hall := rfl
@[simp] theorem State.reach_row (x : Nat) (s : State) : (s.reach x).row = s.row := rfl
@[simp] theorem State.reach_seq (x : Nat) (s : State) : (s.reach x).seq = s.seq := rfl
@[simp] theorem State.reach_manual (x : Nat) (s : State) : (s.reach x).manual = s.manual := rfl
@[simp] theorem State.reach_prot (x : Nat) (s : State) : (s.reach x).prot = s.prot := rfl
@[simp] theorem State.reach_lines (x : Nat) (s : State) : (s.reach x).lines = s.lines := rfl
@[simp] theorem State.reach_sup (x : Nat) (s : State) : (s.reach x).sup = s.sup := rfl
@[simp] theorem State.reach_start (x : Nat) (s : State) : (s.reach x).start = s.start := rfl
@[simp] theorem State.reach_nvm (x : Nat) (s : State) : (s.reach x).nvm = s.nvm := rfl
@[simp] theorem State.reach_inputs (x : Nat) (s : State) : (s.reach x).inputs = s.inputs := rfl
@[simp] theorem State.reach_free (x : Nat) (s : State) : (s.reach x).free = s.free := rfl
@[simp] theorem State.reach_pending (x : Nat) (s : State) : (s.reach x).pending = s.pending := rfl

/-! ### setCurrent -/

@[simp] theorem State.setCurrent_time (f : Current → Current) (s : State) :
    (s.setCurrent f).time = s.time := rfl
@[simp] theorem State.setCurrent_store (f : Current → Current) (s : State) :
    (s.setCurrent f).store = s.store := rfl
@[simp] theorem State.setCurrent_plan (f : Current → Current) (s : State) :
    (s.setCurrent f).plan = s.plan := rfl
@[simp] theorem State.setCurrent_link (f : Current → Current) (s : State) :
    (s.setCurrent f).link = s.link := rfl
@[simp] theorem State.setCurrent_hall (f : Current → Current) (s : State) :
    (s.setCurrent f).hall = s.hall := rfl
@[simp] theorem State.setCurrent_row (f : Current → Current) (s : State) : (s.setCurrent f).row = s.row := rfl
@[simp] theorem State.setCurrent_seq (f : Current → Current) (s : State) :
    (s.setCurrent f).seq = { s.seq with current := s.seq.current.map f } := rfl
@[simp] theorem State.setCurrent_manual (f : Current → Current) (s : State) :
    (s.setCurrent f).manual = s.manual := rfl
@[simp] theorem State.setCurrent_prot (f : Current → Current) (s : State) :
    (s.setCurrent f).prot = s.prot := rfl
@[simp] theorem State.setCurrent_lines (f : Current → Current) (s : State) :
    (s.setCurrent f).lines = s.lines := rfl
@[simp] theorem State.setCurrent_sup (f : Current → Current) (s : State) : (s.setCurrent f).sup = s.sup := rfl
@[simp] theorem State.setCurrent_start (f : Current → Current) (s : State) :
    (s.setCurrent f).start = s.start := rfl
@[simp] theorem State.setCurrent_nvm (f : Current → Current) (s : State) : (s.setCurrent f).nvm = s.nvm := rfl
@[simp] theorem State.setCurrent_inputs (f : Current → Current) (s : State) :
    (s.setCurrent f).inputs = s.inputs := rfl
@[simp] theorem State.setCurrent_free (f : Current → Current) (s : State) :
    (s.setCurrent f).free = s.free := rfl
@[simp] theorem State.setCurrent_pending (f : Current → Current) (s : State) :
    (s.setCurrent f).pending = s.pending := rfl

/-! ### setPoint -/

@[simp] theorem State.setPoint_time (p : Nat) (f : Crosspoint → Crosspoint) (s : State) :
    (s.setPoint p f).time = s.time := rfl
@[simp] theorem State.setPoint_store (p : Nat) (f : Crosspoint → Crosspoint) (s : State) :
    (s.setPoint p f).store = s.store := rfl
@[simp] theorem State.setPoint_plan (p : Nat) (f : Crosspoint → Crosspoint) (s : State) :
    (s.setPoint p f).plan = s.plan := rfl
@[simp] theorem State.setPoint_link (p : Nat) (f : Crosspoint → Crosspoint) (s : State) :
    (s.setPoint p f).link = s.link := rfl
@[simp] theorem State.setPoint_hall (p : Nat) (f : Crosspoint → Crosspoint) (s : State) :
    (s.setPoint p f).hall = s.hall := rfl
@[simp] theorem State.setPoint_row (p : Nat) (f : Crosspoint → Crosspoint) (s : State) :
    (s.setPoint p f).row = { s.row with points := s.row.points.put p (f (s.row.points.get p)) } := rfl
@[simp] theorem State.setPoint_seq (p : Nat) (f : Crosspoint → Crosspoint) (s : State) :
    (s.setPoint p f).seq = s.seq := rfl
@[simp] theorem State.setPoint_manual (p : Nat) (f : Crosspoint → Crosspoint) (s : State) :
    (s.setPoint p f).manual = s.manual := rfl
@[simp] theorem State.setPoint_prot (p : Nat) (f : Crosspoint → Crosspoint) (s : State) :
    (s.setPoint p f).prot = s.prot := rfl
@[simp] theorem State.setPoint_lines (p : Nat) (f : Crosspoint → Crosspoint) (s : State) :
    (s.setPoint p f).lines = s.lines := rfl
@[simp] theorem State.setPoint_sup (p : Nat) (f : Crosspoint → Crosspoint) (s : State) :
    (s.setPoint p f).sup = s.sup := rfl
@[simp] theorem State.setPoint_start (p : Nat) (f : Crosspoint → Crosspoint) (s : State) :
    (s.setPoint p f).start = s.start := rfl
@[simp] theorem State.setPoint_nvm (p : Nat) (f : Crosspoint → Crosspoint) (s : State) :
    (s.setPoint p f).nvm = s.nvm := rfl
@[simp] theorem State.setPoint_inputs (p : Nat) (f : Crosspoint → Crosspoint) (s : State) :
    (s.setPoint p f).inputs = s.inputs := rfl
@[simp] theorem State.setPoint_free (p : Nat) (f : Crosspoint → Crosspoint) (s : State) :
    (s.setPoint p f).free = s.free := rfl
@[simp] theorem State.setPoint_pending (p : Nat) (f : Crosspoint → Crosspoint) (s : State) :
    (s.setPoint p f).pending = s.pending := rfl

/-! ### setPort -/

@[simp] theorem State.setPort_time (p : Nat) (f : PortRecord → PortRecord) (s : State) :
    (s.setPort p f).time = s.time := rfl
@[simp] theorem State.setPort_store (p : Nat) (f : PortRecord → PortRecord) (s : State) :
    (s.setPort p f).store = s.store := rfl
@[simp] theorem State.setPort_plan (p : Nat) (f : PortRecord → PortRecord) (s : State) :
    (s.setPort p f).plan = s.plan := rfl
@[simp] theorem State.setPort_link (p : Nat) (f : PortRecord → PortRecord) (s : State) :
    (s.setPort p f).link = s.link := rfl
@[simp] theorem State.setPort_hall (p : Nat) (f : PortRecord → PortRecord) (s : State) :
    (s.setPort p f).hall = { s.hall with map := s.hall.map.put p (f (s.hall.map.get p)) } := rfl
@[simp] theorem State.setPort_row (p : Nat) (f : PortRecord → PortRecord) (s : State) :
    (s.setPort p f).row = s.row := rfl
@[simp] theorem State.setPort_seq (p : Nat) (f : PortRecord → PortRecord) (s : State) :
    (s.setPort p f).seq = s.seq := rfl
@[simp] theorem State.setPort_manual (p : Nat) (f : PortRecord → PortRecord) (s : State) :
    (s.setPort p f).manual = s.manual := rfl
@[simp] theorem State.setPort_prot (p : Nat) (f : PortRecord → PortRecord) (s : State) :
    (s.setPort p f).prot = s.prot := rfl
@[simp] theorem State.setPort_lines (p : Nat) (f : PortRecord → PortRecord) (s : State) :
    (s.setPort p f).lines = s.lines := rfl
@[simp] theorem State.setPort_sup (p : Nat) (f : PortRecord → PortRecord) (s : State) :
    (s.setPort p f).sup = s.sup := rfl
@[simp] theorem State.setPort_start (p : Nat) (f : PortRecord → PortRecord) (s : State) :
    (s.setPort p f).start = s.start := rfl
@[simp] theorem State.setPort_nvm (p : Nat) (f : PortRecord → PortRecord) (s : State) :
    (s.setPort p f).nvm = s.nvm := rfl
@[simp] theorem State.setPort_inputs (p : Nat) (f : PortRecord → PortRecord) (s : State) :
    (s.setPort p f).inputs = s.inputs := rfl
@[simp] theorem State.setPort_free (p : Nat) (f : PortRecord → PortRecord) (s : State) :
    (s.setPort p f).free = s.free := rfl
@[simp] theorem State.setPort_pending (p : Nat) (f : PortRecord → PortRecord) (s : State) :
    (s.setPort p f).pending = s.pending := rfl

/-! ### setPeer -/

@[simp] theorem State.setPeer_time (b : Nat) (f : PeerRecord → PeerRecord) (s : State) :
    (s.setPeer b f).time = s.time := rfl
@[simp] theorem State.setPeer_store (b : Nat) (f : PeerRecord → PeerRecord) (s : State) :
    (s.setPeer b f).store = s.store := rfl
@[simp] theorem State.setPeer_plan (b : Nat) (f : PeerRecord → PeerRecord) (s : State) :
    (s.setPeer b f).plan = s.plan := rfl
@[simp] theorem State.setPeer_link (b : Nat) (f : PeerRecord → PeerRecord) (s : State) :
    (s.setPeer b f).link = s.link := rfl
@[simp] theorem State.setPeer_hall (b : Nat) (f : PeerRecord → PeerRecord) (s : State) :
    (s.setPeer b f).hall = { s.hall with peers := s.hall.peers.put b (f (s.hall.peers.get b)) } := rfl
@[simp] theorem State.setPeer_row (b : Nat) (f : PeerRecord → PeerRecord) (s : State) :
    (s.setPeer b f).row = s.row := rfl
@[simp] theorem State.setPeer_seq (b : Nat) (f : PeerRecord → PeerRecord) (s : State) :
    (s.setPeer b f).seq = s.seq := rfl
@[simp] theorem State.setPeer_manual (b : Nat) (f : PeerRecord → PeerRecord) (s : State) :
    (s.setPeer b f).manual = s.manual := rfl
@[simp] theorem State.setPeer_prot (b : Nat) (f : PeerRecord → PeerRecord) (s : State) :
    (s.setPeer b f).prot = s.prot := rfl
@[simp] theorem State.setPeer_lines (b : Nat) (f : PeerRecord → PeerRecord) (s : State) :
    (s.setPeer b f).lines = s.lines := rfl
@[simp] theorem State.setPeer_sup (b : Nat) (f : PeerRecord → PeerRecord) (s : State) :
    (s.setPeer b f).sup = s.sup := rfl
@[simp] theorem State.setPeer_start (b : Nat) (f : PeerRecord → PeerRecord) (s : State) :
    (s.setPeer b f).start = s.start := rfl
@[simp] theorem State.setPeer_nvm (b : Nat) (f : PeerRecord → PeerRecord) (s : State) :
    (s.setPeer b f).nvm = s.nvm := rfl
@[simp] theorem State.setPeer_inputs (b : Nat) (f : PeerRecord → PeerRecord) (s : State) :
    (s.setPeer b f).inputs = s.inputs := rfl
@[simp] theorem State.setPeer_free (b : Nat) (f : PeerRecord → PeerRecord) (s : State) :
    (s.setPeer b f).free = s.free := rfl
@[simp] theorem State.setPeer_pending (b : Nat) (f : PeerRecord → PeerRecord) (s : State) :
    (s.setPeer b f).pending = s.pending := rfl

/-! ### setLine -/

@[simp] theorem State.setLine_time (i : Nat) (f : FaultLine → FaultLine) (s : State) :
    (s.setLine i f).time = s.time := rfl
@[simp] theorem State.setLine_store (i : Nat) (f : FaultLine → FaultLine) (s : State) :
    (s.setLine i f).store = s.store := rfl
@[simp] theorem State.setLine_plan (i : Nat) (f : FaultLine → FaultLine) (s : State) :
    (s.setLine i f).plan = s.plan := rfl
@[simp] theorem State.setLine_link (i : Nat) (f : FaultLine → FaultLine) (s : State) :
    (s.setLine i f).link = s.link := rfl
@[simp] theorem State.setLine_hall (i : Nat) (f : FaultLine → FaultLine) (s : State) :
    (s.setLine i f).hall = s.hall := rfl
@[simp] theorem State.setLine_row (i : Nat) (f : FaultLine → FaultLine) (s : State) :
    (s.setLine i f).row = s.row := rfl
@[simp] theorem State.setLine_seq (i : Nat) (f : FaultLine → FaultLine) (s : State) :
    (s.setLine i f).seq = s.seq := rfl
@[simp] theorem State.setLine_manual (i : Nat) (f : FaultLine → FaultLine) (s : State) :
    (s.setLine i f).manual = s.manual := rfl
@[simp] theorem State.setLine_prot (i : Nat) (f : FaultLine → FaultLine) (s : State) :
    (s.setLine i f).prot = s.prot := rfl
@[simp] theorem State.setLine_lines (i : Nat) (f : FaultLine → FaultLine) (s : State) :
    (s.setLine i f).lines = { s.lines with line := s.lines.line.put i (f (s.lines.line.get i)) } := rfl
@[simp] theorem State.setLine_sup (i : Nat) (f : FaultLine → FaultLine) (s : State) :
    (s.setLine i f).sup = s.sup := rfl
@[simp] theorem State.setLine_start (i : Nat) (f : FaultLine → FaultLine) (s : State) :
    (s.setLine i f).start = s.start := rfl
@[simp] theorem State.setLine_nvm (i : Nat) (f : FaultLine → FaultLine) (s : State) :
    (s.setLine i f).nvm = s.nvm := rfl
@[simp] theorem State.setLine_inputs (i : Nat) (f : FaultLine → FaultLine) (s : State) :
    (s.setLine i f).inputs = s.inputs := rfl
@[simp] theorem State.setLine_free (i : Nat) (f : FaultLine → FaultLine) (s : State) :
    (s.setLine i f).free = s.free := rfl
@[simp] theorem State.setLine_pending (i : Nat) (f : FaultLine → FaultLine) (s : State) :
    (s.setLine i f).pending = s.pending := rfl

/-! ### refreshDemand -/

@[simp] theorem refreshDemand_time (s : State) : (refreshDemand s).time = s.time := rfl
@[simp] theorem refreshDemand_store (s : State) : (refreshDemand s).store = s.store := rfl
@[simp] theorem refreshDemand_plan (s : State) : (refreshDemand s).plan = s.plan := rfl
@[simp] theorem refreshDemand_link (s : State) : (refreshDemand s).link = s.link := rfl
@[simp] theorem refreshDemand_hall (s : State) : (refreshDemand s).hall = s.hall := rfl
@[simp] theorem refreshDemand_row (s : State) : (refreshDemand s).row = s.row := rfl
@[simp] theorem refreshDemand_seq (s : State) : (refreshDemand s).seq = s.seq := rfl
@[simp] theorem refreshDemand_manual (s : State) : (refreshDemand s).manual = s.manual := rfl
@[simp] theorem refreshDemand_prot (s : State) :
    (refreshDemand s).prot = { s.prot with demand := s.demandNow } := rfl
@[simp] theorem refreshDemand_lines (s : State) : (refreshDemand s).lines = s.lines := rfl
@[simp] theorem refreshDemand_sup (s : State) : (refreshDemand s).sup = s.sup := rfl
@[simp] theorem refreshDemand_start (s : State) : (refreshDemand s).start = s.start := rfl
@[simp] theorem refreshDemand_nvm (s : State) : (refreshDemand s).nvm = s.nvm := rfl
@[simp] theorem refreshDemand_inputs (s : State) : (refreshDemand s).inputs = s.inputs := rfl
@[simp] theorem refreshDemand_free (s : State) : (refreshDemand s).free = s.free := rfl
@[simp] theorem refreshDemand_pending (s : State) : (refreshDemand s).pending = s.pending := rfl

/-! ### withdrawWaiting -/

@[simp] theorem withdrawWaiting_time (s : State) : (withdrawWaiting s).time = s.time := rfl
@[simp] theorem withdrawWaiting_store (s : State) : (withdrawWaiting s).store = s.store := rfl
@[simp] theorem withdrawWaiting_plan (s : State) : (withdrawWaiting s).plan = s.plan := rfl
@[simp] theorem withdrawWaiting_link (s : State) : (withdrawWaiting s).link = s.link := rfl
@[simp] theorem withdrawWaiting_hall (s : State) : (withdrawWaiting s).hall = s.hall := rfl
@[simp] theorem withdrawWaiting_row (s : State) :
    (withdrawWaiting s).row = { s.row with waiting := none } := rfl
@[simp] theorem withdrawWaiting_seq (s : State) :
    (withdrawWaiting s).seq = { s.seq with
      leftPort := s.seq.leftPort.filter (fun q => decide (s.row.waiting ≠ some (.openPort q))) } := rfl
@[simp] theorem withdrawWaiting_manual (s : State) : (withdrawWaiting s).manual = s.manual := rfl
@[simp] theorem withdrawWaiting_prot (s : State) : (withdrawWaiting s).prot = s.prot := rfl
@[simp] theorem withdrawWaiting_lines (s : State) : (withdrawWaiting s).lines = s.lines := rfl
@[simp] theorem withdrawWaiting_sup (s : State) : (withdrawWaiting s).sup = s.sup := rfl
@[simp] theorem withdrawWaiting_start (s : State) : (withdrawWaiting s).start = s.start := rfl
@[simp] theorem withdrawWaiting_nvm (s : State) : (withdrawWaiting s).nvm = s.nvm := rfl
@[simp] theorem withdrawWaiting_inputs (s : State) : (withdrawWaiting s).inputs = s.inputs := rfl
@[simp] theorem withdrawWaiting_free (s : State) : (withdrawWaiting s).free = s.free := rfl
@[simp] theorem withdrawWaiting_pending (s : State) : (withdrawWaiting s).pending = s.pending := rfl

/-! ### dropLeft -/

@[simp] theorem dropLeft_time (p : Nat) (s : State) :
    (dropLeft p s).time = s.time := rfl
@[simp] theorem dropLeft_store (p : Nat) (s : State) :
    (dropLeft p s).store = s.store := rfl
@[simp] theorem dropLeft_plan (p : Nat) (s : State) :
    (dropLeft p s).plan = s.plan := rfl
@[simp] theorem dropLeft_link (p : Nat) (s : State) :
    (dropLeft p s).link = s.link := rfl
@[simp] theorem dropLeft_hall (p : Nat) (s : State) :
    (dropLeft p s).hall = s.hall := rfl
@[simp] theorem dropLeft_row (p : Nat) (s : State) :
    (dropLeft p s).row = s.row := rfl
@[simp] theorem dropLeft_seq (p : Nat) (s : State) :
    (dropLeft p s).seq = { s.seq with leftPort := s.seq.leftPort.filter (fun q => decide (q ≠ p)) } := rfl
@[simp] theorem dropLeft_manual (p : Nat) (s : State) :
    (dropLeft p s).manual = s.manual := rfl
@[simp] theorem dropLeft_prot (p : Nat) (s : State) :
    (dropLeft p s).prot = s.prot := rfl
@[simp] theorem dropLeft_lines (p : Nat) (s : State) :
    (dropLeft p s).lines = s.lines := rfl
@[simp] theorem dropLeft_sup (p : Nat) (s : State) :
    (dropLeft p s).sup = s.sup := rfl
@[simp] theorem dropLeft_start (p : Nat) (s : State) :
    (dropLeft p s).start = s.start := rfl
@[simp] theorem dropLeft_nvm (p : Nat) (s : State) :
    (dropLeft p s).nvm = s.nvm := rfl
@[simp] theorem dropLeft_inputs (p : Nat) (s : State) :
    (dropLeft p s).inputs = s.inputs := rfl
@[simp] theorem dropLeft_free (p : Nat) (s : State) :
    (dropLeft p s).free = s.free := rfl
@[simp] theorem dropLeft_pending (p : Nat) (s : State) :
    (dropLeft p s).pending = s.pending := rfl

/-! ### keepTuned -/

@[simp] theorem keepTuned_time (f : Option Nat) (s : State) :
    (keepTuned f s).time = s.time := rfl
@[simp] theorem keepTuned_store (f : Option Nat) (s : State) :
    (keepTuned f s).store = s.store := rfl
@[simp] theorem keepTuned_plan (f : Option Nat) (s : State) :
    (keepTuned f s).plan = s.plan := rfl
@[simp] theorem keepTuned_link (f : Option Nat) (s : State) :
    (keepTuned f s).link = s.link := rfl
@[simp] theorem keepTuned_hall (f : Option Nat) (s : State) :
    (keepTuned f s).hall = s.hall := rfl
@[simp] theorem keepTuned_row (f : Option Nat) (s : State) :
    (keepTuned f s).row = s.row := rfl
@[simp] theorem keepTuned_seq (f : Option Nat) (s : State) :
    (keepTuned f s).seq = { s.seq with tuneSub := .tuned, tuneFreq := f } := rfl
@[simp] theorem keepTuned_manual (f : Option Nat) (s : State) :
    (keepTuned f s).manual = s.manual := rfl
@[simp] theorem keepTuned_prot (f : Option Nat) (s : State) :
    (keepTuned f s).prot = s.prot := rfl
@[simp] theorem keepTuned_lines (f : Option Nat) (s : State) :
    (keepTuned f s).lines = s.lines := rfl
@[simp] theorem keepTuned_sup (f : Option Nat) (s : State) :
    (keepTuned f s).sup = s.sup := rfl
@[simp] theorem keepTuned_start (f : Option Nat) (s : State) :
    (keepTuned f s).start = s.start := rfl
@[simp] theorem keepTuned_nvm (f : Option Nat) (s : State) :
    (keepTuned f s).nvm = s.nvm := rfl
@[simp] theorem keepTuned_inputs (f : Option Nat) (s : State) :
    (keepTuned f s).inputs = s.inputs := rfl
@[simp] theorem keepTuned_free (f : Option Nat) (s : State) :
    (keepTuned f s).free = s.free := rfl
@[simp] theorem keepTuned_pending (f : Option Nat) (s : State) :
    (keepTuned f s).pending = s.pending := rfl

/-! ### stopTune -/

@[simp] theorem stopTune_time (s : State) : (stopTune s).time = s.time := rfl
@[simp] theorem stopTune_store (s : State) : (stopTune s).store = s.store := rfl
@[simp] theorem stopTune_plan (s : State) : (stopTune s).plan = s.plan := rfl
@[simp] theorem stopTune_link (s : State) : (stopTune s).link = s.link := rfl
@[simp] theorem stopTune_hall (s : State) : (stopTune s).hall = s.hall := rfl
@[simp] theorem stopTune_row (s : State) : (stopTune s).row = s.row := rfl
@[simp] theorem stopTune_seq (s : State) :
    (stopTune s).seq = { s.seq with tuneRequest := false, tuneTimer := none, tuneSub := .idle } := rfl
@[simp] theorem stopTune_manual (s : State) : (stopTune s).manual = s.manual := rfl
@[simp] theorem stopTune_prot (s : State) : (stopTune s).prot = s.prot := rfl
@[simp] theorem stopTune_lines (s : State) : (stopTune s).lines = s.lines := rfl
@[simp] theorem stopTune_sup (s : State) : (stopTune s).sup = s.sup := rfl
@[simp] theorem stopTune_start (s : State) : (stopTune s).start = s.start := rfl
@[simp] theorem stopTune_nvm (s : State) : (stopTune s).nvm = s.nvm := rfl
@[simp] theorem stopTune_inputs (s : State) : (stopTune s).inputs = s.inputs := rfl
@[simp] theorem stopTune_free (s : State) : (stopTune s).free = s.free := rfl
@[simp] theorem stopTune_pending (s : State) : (stopTune s).pending = s.pending := rfl

/-! ### respond -/

@[simp] theorem respond_time (n : Nat) (r : Result) (d : List Byte) (s : State) :
    (respond n r d s).time = s.time := rfl
@[simp] theorem respond_store (n : Nat) (r : Result) (d : List Byte) (s : State) :
    (respond n r d s).store = s.store := rfl
@[simp] theorem respond_plan (n : Nat) (r : Result) (d : List Byte) (s : State) :
    (respond n r d s).plan = s.plan := rfl
@[simp] theorem respond_link (n : Nat) (r : Result) (d : List Byte) (s : State) :
    (respond n r d s).link = s.link := rfl
@[simp] theorem respond_hall (n : Nat) (r : Result) (d : List Byte) (s : State) :
    (respond n r d s).hall = s.hall := rfl
@[simp] theorem respond_row (n : Nat) (r : Result) (d : List Byte) (s : State) :
    (respond n r d s).row = s.row := rfl
@[simp] theorem respond_seq (n : Nat) (r : Result) (d : List Byte) (s : State) :
    (respond n r d s).seq = s.seq := rfl
@[simp] theorem respond_manual (n : Nat) (r : Result) (d : List Byte) (s : State) :
    (respond n r d s).manual = s.manual := rfl
@[simp] theorem respond_prot (n : Nat) (r : Result) (d : List Byte) (s : State) :
    (respond n r d s).prot = s.prot := rfl
@[simp] theorem respond_lines (n : Nat) (r : Result) (d : List Byte) (s : State) :
    (respond n r d s).lines = s.lines := rfl
@[simp] theorem respond_sup (n : Nat) (r : Result) (d : List Byte) (s : State) :
    (respond n r d s).sup = answerTo n r d s.sup := rfl
@[simp] theorem respond_start (n : Nat) (r : Result) (d : List Byte) (s : State) :
    (respond n r d s).start = s.start := rfl
@[simp] theorem respond_nvm (n : Nat) (r : Result) (d : List Byte) (s : State) :
    (respond n r d s).nvm = s.nvm := rfl
@[simp] theorem respond_inputs (n : Nat) (r : Result) (d : List Byte) (s : State) :
    (respond n r d s).inputs = s.inputs := rfl
@[simp] theorem respond_free (n : Nat) (r : Result) (d : List Byte) (s : State) :
    (respond n r d s).free = s.free := rfl
@[simp] theorem respond_pending (n : Nat) (r : Result) (d : List Byte) (s : State) :
    (respond n r d s).pending = s.pending := rfl

/-! ### onlyAnswers -/

@[simp] theorem onlyAnswers_time (n : Nat) (r : Result) (d : List Byte) (s : State) :
    (onlyAnswers n r d s).time = s.time := rfl
@[simp] theorem onlyAnswers_store (n : Nat) (r : Result) (d : List Byte) (s : State) :
    (onlyAnswers n r d s).store = s.store := rfl
@[simp] theorem onlyAnswers_plan (n : Nat) (r : Result) (d : List Byte) (s : State) :
    (onlyAnswers n r d s).plan = s.plan := rfl
@[simp] theorem onlyAnswers_link (n : Nat) (r : Result) (d : List Byte) (s : State) :
    (onlyAnswers n r d s).link = s.link := rfl
@[simp] theorem onlyAnswers_hall (n : Nat) (r : Result) (d : List Byte) (s : State) :
    (onlyAnswers n r d s).hall = s.hall := rfl
@[simp] theorem onlyAnswers_row (n : Nat) (r : Result) (d : List Byte) (s : State) :
    (onlyAnswers n r d s).row = s.row := rfl
@[simp] theorem onlyAnswers_seq (n : Nat) (r : Result) (d : List Byte) (s : State) :
    (onlyAnswers n r d s).seq = s.seq := rfl
@[simp] theorem onlyAnswers_manual (n : Nat) (r : Result) (d : List Byte) (s : State) :
    (onlyAnswers n r d s).manual = s.manual := rfl
@[simp] theorem onlyAnswers_prot (n : Nat) (r : Result) (d : List Byte) (s : State) :
    (onlyAnswers n r d s).prot = s.prot := rfl
@[simp] theorem onlyAnswers_lines (n : Nat) (r : Result) (d : List Byte) (s : State) :
    (onlyAnswers n r d s).lines = s.lines := rfl
@[simp] theorem onlyAnswers_sup (n : Nat) (r : Result) (d : List Byte) (s : State) :
    (onlyAnswers n r d s).sup = answerTo n r d s.sup := rfl
@[simp] theorem onlyAnswers_start (n : Nat) (r : Result) (d : List Byte) (s : State) :
    (onlyAnswers n r d s).start = s.start := rfl
@[simp] theorem onlyAnswers_nvm (n : Nat) (r : Result) (d : List Byte) (s : State) :
    (onlyAnswers n r d s).nvm = s.nvm := rfl
@[simp] theorem onlyAnswers_inputs (n : Nat) (r : Result) (d : List Byte) (s : State) :
    (onlyAnswers n r d s).inputs = s.inputs := rfl
@[simp] theorem onlyAnswers_free (n : Nat) (r : Result) (d : List Byte) (s : State) :
    (onlyAnswers n r d s).free = s.free := rfl
@[simp] theorem onlyAnswers_pending (n : Nat) (r : Result) (d : List Byte) (s : State) :
    (onlyAnswers n r d s).pending = s.pending := rfl

/-! ### The views that an update leaves alone -/

@[simp] theorem State.setSeq_stamp (f : Sequencer → Sequencer) (s : State) :
    (s.setSeq f).stamp = s.stamp := rfl
@[simp] theorem State.setSeq_cfg (f : Sequencer → Sequencer) (s : State) : (s.setSeq f).cfg = s.cfg := rfl
@[simp] theorem State.setSeq_bay (f : Sequencer → Sequencer) (s : State) : (s.setSeq f).bay = s.bay := rfl
@[simp] theorem State.setRow_stamp (f : RowDriver → RowDriver) (s : State) :
    (s.setRow f).stamp = s.stamp := rfl
@[simp] theorem State.setRow_cfg (f : RowDriver → RowDriver) (s : State) : (s.setRow f).cfg = s.cfg := rfl
@[simp] theorem State.setRow_bay (f : RowDriver → RowDriver) (s : State) : (s.setRow f).bay = s.bay := rfl
@[simp] theorem State.setManual_stamp (f : Manual → Manual) (s : State) :
    (s.setManual f).stamp = s.stamp := rfl
@[simp] theorem State.setManual_cfg (f : Manual → Manual) (s : State) : (s.setManual f).cfg = s.cfg := rfl
@[simp] theorem State.setManual_bay (f : Manual → Manual) (s : State) : (s.setManual f).bay = s.bay := rfl
@[simp] theorem State.setSup_stamp (f : Supervisor → Supervisor) (s : State) :
    (s.setSup f).stamp = s.stamp := rfl
@[simp] theorem State.setSup_cfg (f : Supervisor → Supervisor) (s : State) : (s.setSup f).cfg = s.cfg := rfl
@[simp] theorem State.setSup_bay (f : Supervisor → Supervisor) (s : State) : (s.setSup f).bay = s.bay := rfl
@[simp] theorem State.setInputs_stamp (f : Inputs → Inputs) (s : State) :
    (s.setInputs f).stamp = s.stamp := rfl
@[simp] theorem State.setInputs_cfg (f : Inputs → Inputs) (s : State) : (s.setInputs f).cfg = s.cfg := rfl
@[simp] theorem State.setInputs_bay (f : Inputs → Inputs) (s : State) : (s.setInputs f).bay = s.bay := rfl
@[simp] theorem State.setLink_stamp (f : Link → Link) (s : State) : (s.setLink f).stamp = s.stamp := rfl
@[simp] theorem State.setLink_cfg (f : Link → Link) (s : State) : (s.setLink f).cfg = s.cfg := rfl
@[simp] theorem State.setLink_bay (f : Link → Link) (s : State) : (s.setLink f).bay = s.bay := rfl
@[simp] theorem State.setFloor_stamp (x : Nat) (s : State) : (s.setFloor x).stamp = s.stamp := rfl
@[simp] theorem State.setFloor_cfg (x : Nat) (s : State) : (s.setFloor x).cfg = s.cfg := rfl
@[simp] theorem State.setFloor_bay (x : Nat) (s : State) : (s.setFloor x).bay = s.bay := rfl
@[simp] theorem State.reach_stamp (x : Nat) (s : State) : (s.reach x).stamp = s.stamp := rfl
@[simp] theorem State.reach_cfg (x : Nat) (s : State) : (s.reach x).cfg = s.cfg := rfl
@[simp] theorem State.reach_bay (x : Nat) (s : State) : (s.reach x).bay = s.bay := rfl
@[simp] theorem State.setCurrent_stamp (f : Current → Current) (s : State) :
    (s.setCurrent f).stamp = s.stamp := rfl
@[simp] theorem State.setCurrent_cfg (f : Current → Current) (s : State) : (s.setCurrent f).cfg = s.cfg := rfl
@[simp] theorem State.setCurrent_bay (f : Current → Current) (s : State) : (s.setCurrent f).bay = s.bay := rfl
@[simp] theorem State.setPoint_stamp (p : Nat) (f : Crosspoint → Crosspoint) (s : State) :
    (s.setPoint p f).stamp = s.stamp := rfl
@[simp] theorem State.setPoint_cfg (p : Nat) (f : Crosspoint → Crosspoint) (s : State) :
    (s.setPoint p f).cfg = s.cfg := rfl
@[simp] theorem State.setPoint_bay (p : Nat) (f : Crosspoint → Crosspoint) (s : State) :
    (s.setPoint p f).bay = s.bay := rfl
@[simp] theorem State.setPort_stamp (p : Nat) (f : PortRecord → PortRecord) (s : State) :
    (s.setPort p f).stamp = s.stamp := rfl
@[simp] theorem State.setPort_cfg (p : Nat) (f : PortRecord → PortRecord) (s : State) :
    (s.setPort p f).cfg = s.cfg := rfl
@[simp] theorem State.setPort_bay (p : Nat) (f : PortRecord → PortRecord) (s : State) :
    (s.setPort p f).bay = s.bay := rfl
@[simp] theorem State.setPeer_stamp (b : Nat) (f : PeerRecord → PeerRecord) (s : State) :
    (s.setPeer b f).stamp = s.stamp := rfl
@[simp] theorem State.setPeer_cfg (b : Nat) (f : PeerRecord → PeerRecord) (s : State) :
    (s.setPeer b f).cfg = s.cfg := rfl
@[simp] theorem State.setPeer_bay (b : Nat) (f : PeerRecord → PeerRecord) (s : State) :
    (s.setPeer b f).bay = s.bay := rfl
@[simp] theorem State.setLine_stamp (i : Nat) (f : FaultLine → FaultLine) (s : State) :
    (s.setLine i f).stamp = s.stamp := rfl
@[simp] theorem State.setLine_cfg (i : Nat) (f : FaultLine → FaultLine) (s : State) :
    (s.setLine i f).cfg = s.cfg := rfl
@[simp] theorem State.setLine_bay (i : Nat) (f : FaultLine → FaultLine) (s : State) :
    (s.setLine i f).bay = s.bay := rfl

end Sys2Proof.Machine
end

