-- ==== Sys2Proof/Laws/Ops.lean ====
section
/-! SUPPORT. What the shared operations can do, said once each: tables, filing and answering, permit and demand, the
transmit queue, and the NVM with its canonical form. -/

namespace Sys2Proof

/-! ## Tables -/

@[simp] theorem Table.get_fill [Inhabited α] (n i : Nat) (x : α) :
    Table.get (Table.fill n x) i = if i < n then x else default := by
  simp only [Table.get, Table.fill, Vector.toList]
  split
  · next h => simp [List.getD, h]
  · next h => simp [List.getD, h]

theorem Table.get_put [Inhabited α] (t : Table α n) (i j : Nat) (x : α) :
    Table.get (Table.put t i x) j = if i = j ∧ i < n then x else Table.get t j := by
  simp only [Table.get, Table.put, Vector.toList, List.getD_eq_getElem?_getD, List.getElem?_set]
  by_cases h : i = j
  · subst h
    by_cases h' : i < n
    · simp [h']
    · simp [h']
  · simp [h]

@[simp] theorem Table.get_put_same [Inhabited α] (t : Table α n) (i : Nat) (x : α) (h : i < n) :
    Table.get (Table.put t i x) i = x := by simp [Table.get_put, h]

@[simp] theorem Table.get_put_other [Inhabited α] (t : Table α n) (i j : Nat) (x : α) (h : i ≠ j) :
    Table.get (Table.put t i x) j = Table.get t j := by simp [Table.get_put, h]

namespace Machine

/-! ## Reports and answers (R181, R183, R188) -/

/-- R183: a report joins a queue with room. -/
theorem file_room (k : ReportKind) (a b : Nat) (s : State) (h : s.sup.reports.length < 32) :
    file k a b s = { s with sup := { s.sup with reports := s.sup.reports ++ [⟨s.stamp, k, a, b⟩] } } := by
  simp [file, h]

/-- R183: at a full queue it is dropped and REPORT_LOST is set. -/
theorem file_full (k : ReportKind) (a b : Nat) (s : State) (h : ¬ s.sup.reports.length < 32) :
    file k a b s =
      { s with sup := { s.sup with sticky := { s.sup.sticky with reportLost := true } } } := by
  simp [file, h]

/-- A report writes the supervisor port's queue and REPORT_LOST, and nothing else. -/
theorem file_frame (k : ReportKind) (a b : Nat) (s : State) :
    file k a b s = { s with sup := { s.sup with reports := (file k a b s).sup.reports,
                                                sticky := (file k a b s).sup.sticky } } := by
  by_cases h : s.sup.reports.length < 32
  · simp [file_room k a b s h]
  · simp [file_full k a b s h]

/-- R183: the queue keeps its bound. -/
theorem file_fits (k : ReportKind) (a b : Nat) (s : State) (h : reportsFit s) : reportsFit (file k a b s) := by
  unfold reportsFit at *
  by_cases g : s.sup.reports.length < 32
  · rw [file_room k a b s g]
    simp
    omega
  · rw [file_full k a b s g]
    exact h

theorem respond_eq (n : Nat) (r : Result) (d : List Byte) (s : State) : respond n r d s = onlyAnswers n r d s := rfl

/-- R188: a command finds BUSY while an NVM command is pending. -/
theorem answered_busy (n : Nat) (f : State → Decision) (s : State) (h : s.sup.nvmPending ≠ none) :
    answered n f s = onlyAnswers n .busy [] s := by
  cases e : s.sup.nvmPending with
  | none => exact absurd e h
  | some c => simp [answered, e, respond_eq]

/-- R181: otherwise its own rule decides, and the answer is written into the state it leaves. -/
theorem answered_free (n : Nat) (f : State → Decision) (s : State) (h : s.sup.nvmPending = none) :
    answered n f s = onlyAnswers n (f s).2.1 (f s).2.2 (f s).1 := by
  simp [answered, decided, h, respond_eq]

/-! ## Permit and demand (R122, R151) -/

/-- R151: the demand is 0 without the permit and else the least of its three values. -/
theorem refreshDemand_bound (s : State) : (refreshDemand s).prot.demand ≤ min s.prot.limit s.prot.cap := by
  simp only [refreshDemand, State.demandNow]
  split <;> omega

theorem refreshDemand_safe (s : State) : noPowerWithoutPermit (refreshDemand s) := by
  intro h
  simp only [refreshDemand] at h
  simp [refreshDemand, State.demandNow, h]

theorem startWatch_frame (b : Bool) (s : State) :
    startWatch b s = { s with seq := (startWatch b s).seq } ∧
      (startWatch b s).seq.permit = s.seq.permit ∧ (startWatch b s).seq.state = s.seq.state ∧
      (startWatch b s).seq.current = s.seq.current := by
  unfold startWatch
  split <;> simp [State.setSeq]

/-- R122: the permit removed, with the demand 0; everything but the sequencer and the protection unit stands. -/
theorem removePermit_frame (s : State) (h : s.seq.permit = true) :
    removePermit s = { s with seq := (removePermit s).seq, prot := (removePermit s).prot } ∧
      (removePermit s).seq.permit = false ∧ (removePermit s).prot.demand = 0 ∧
      (removePermit s).seq.state = s.seq.state ∧ (removePermit s).seq.current = s.seq.current ∧
      (removePermit s).prot.trips = s.prot.trips ∧ (removePermit s).prot.lockout = s.prot.lockout ∧
      (removePermit s).prot.target = s.prot.target ∧ (removePermit s).prot.cap = s.prot.cap := by
  simp only [removePermit, h, if_true]
  unfold startWatch
  split <;>
    simp [State.setSeq, refreshDemand, State.demandNow, Protection.permitOff]

theorem removePermit_off (s : State) (h : s.seq.permit = false) : removePermit s = s := by
  simp [removePermit, h]

/-! ## The transmit queue (R68) -/

/-- R68: an offer keeps the queue's bound. -/
theorem offer_fits (f : Frame) (r : Bool) (l : Link) (h : l.queue.length ≤ 8) : (l.offer f r).1.queue.length ≤ 8 := by
  have drop : ∀ q, l.dropPresence = some q → q.length + 1 = l.queue.length := by
    intro q e
    unfold Link.dropPresence at e
    cases hq : l.queue with
    | nil => simp [hq] at e
    | cons x rest =>
      simp only [hq] at e
      split at e
      · split at e
        · cases e
        · cases e
          simp
      · split at e
        · next hp hr =>
          cases e
          have hpos : 0 < rest.length := by
            cases rest with
            | nil => simp at hr
            | cons _ _ => simp
          obtain ⟨y, hy, py⟩ := List.any_eq_true.mp hr
          simp [List.length_eraseP_of_mem hy py]
          omega
        · cases e
  unfold Link.offer
  split
  · split
    · simpa using h
    · split
      · next g => simp; omega
      · exact h
  · split
    · next g => simp; omega
    · split
      · next q e => have := drop q e; simp; omega
      · exact h

/-! ## The NVM (R188) -/

theorem Memory.wfFrom_mono (lo hi : Nat) (m : Memory) (h : hi ≤ lo) (w : Memory.wfFrom lo m = true) :
    Memory.wfFrom hi m = true := by
  cases m with
  | nil => rfl
  | cons e rest =>
    simp only [Memory.wfFrom, Bool.and_eq_true, decide_eq_true_eq] at *
    exact ⟨⟨by omega, w.1.2⟩, w.2⟩

/-- A write keeps the canonical form above any bound that the address respects. -/
theorem Memory.write_wfFrom (lo a : Nat) (x : Byte) (m : Memory) (h : lo ≤ a) (w : Memory.wfFrom lo m = true) :
    Memory.wfFrom lo (Memory.write a x m) = true := by
  induction m generalizing lo with
  | nil =>
    simp only [Memory.write]
    split
    · rfl
    · next g => simp [Memory.wfFrom, h, g]
  | cons e rest ih =>
    obtain ⟨b, y⟩ := e
    simp only [Memory.wfFrom, Bool.and_eq_true, decide_eq_true_eq] at w
    simp only [Memory.write]
    split
    · next g =>
      subst g
      split
      · exact Memory.wfFrom_mono (b + 1) lo rest (by omega) w.2
      · next nx => simp [Memory.wfFrom, h, nx, w.2]
    · split
      · split
        · simp [Memory.wfFrom, w.1.1, w.1.2, w.2]
        · next g nx => simp [Memory.wfFrom, h, nx, w.1.2, w.2]; omega
      · next g g' =>
        simp only [Memory.wfFrom, Bool.and_eq_true, decide_eq_true_eq]
        exact ⟨w.1, ih (b + 1) (by omega) w.2⟩

/-- A write keeps the canonical form. -/
theorem Memory.write_wf (a : Nat) (x : Byte) (m : Memory) (w : m.wf = true) : (Memory.write a x m).wf = true :=
  Memory.write_wfFrom 0 a x m (Nat.zero_le a) w

/-- So does a run of writes. -/
theorem Memory.writeAll_wf (a : Nat) (xs : List Byte) (m : Memory) (w : m.wf = true) :
    (Memory.writeAll a xs m).wf = true := by
  induction xs generalizing a m with
  | nil => exact w
  | cons x rest ih => exact ih (a + 1) _ (Memory.write_wf a x m w)

theorem Memory.cutWrite_wf (free a : Nat) (xs : List Byte) (m : Memory) (w : m.wf = true) :
    (cutWrite free a xs m).wf = true := by
  induction xs generalizing free a m with
  | nil => exact w
  | cons x rest ih =>
    simp only [cutWrite]
    apply ih
    split
    · exact Memory.write_wf a x m w
    · exact w

theorem Memory.read_below (a lo : Nat) (m : Memory) (h : a < lo) (w : Memory.wfFrom lo m = true) :
    m.read a = nvmBlank := by
  cases m with
  | nil => rfl
  | cons e rest =>
    obtain ⟨b, y⟩ := e
    simp only [Memory.wfFrom, Bool.and_eq_true, decide_eq_true_eq] at w
    have h1 : b ≠ a := by omega
    have h2 : a < b := by omega
    simp [Memory.read, h1, h2]

/-- A read after a write: the byte written at its address, and every other byte as it was. -/
theorem Memory.read_write (a b : Nat) (x : Byte) (m : Memory) (w : m.wf = true) :
    (Memory.write a x m).read b = if a = b then x else m.read b := by
  suffices ∀ lo, Memory.wfFrom lo m = true →
      (Memory.write a x m).read b = if a = b then x else m.read b from this 0 w
  clear w
  induction m with
  | nil =>
    intro lo _
    simp only [Memory.write]
    split <;> split <;> simp_all [Memory.read]
  | cons e rest ih =>
    obtain ⟨c, y⟩ := e
    intro lo w
    simp only [Memory.wfFrom, Bool.and_eq_true, decide_eq_true_eq] at w
    simp only [Memory.write]
    by_cases g : c = a
    · subst g
      simp only [if_true]
      by_cases nx : x = nvmBlank
      · simp only [nx, if_true]
        by_cases hb : c = b
        · subst hb
          simp [Memory.read_below c (c + 1) rest (by omega) w.2]
        · by_cases hl : b < c
          · simp [hb, Memory.read_below b (c + 1) rest (by omega) w.2, Memory.read, hl]
          · simp [hb, Memory.read, hl]
      · simp only [nx, if_false]
        by_cases hb : c = b <;> simp [Memory.read, hb]
    · simp only [g, if_false]
      by_cases hl : a < c
      · simp only [hl, if_true]
        by_cases nx : x = nvmBlank
        · simp only [nx, if_true]
          by_cases hb : a = b
          · subst hb
            simp [Memory.read, g, hl]
          · simp [hb]
        · simp only [nx, if_false]
          by_cases hb : a = b
          · simp [Memory.read, hb]
          · by_cases hc : b < a
            · have h1 : c ≠ b := by omega
              have h2 : b < c := by omega
              simp [Memory.read, hb, hc, h1, h2]
            · simp [Memory.read, hb, hc]
      · simp only [hl, if_false, Memory.read]
        by_cases hc : c = b
        · have : a ≠ b := by omega
          simp [hc, this]
        · by_cases hd : b < c
          · have : a ≠ b := by omega
            simp [hc, hd, this]
          · simp only [hc, hd, if_false]
            exact ih (c + 1) w.2

/-- The same for a run of writes. -/
theorem Memory.read_writeAll (a b : Nat) (xs : List Byte) (m : Memory) (w : m.wf = true) :
    (Memory.writeAll a xs m).read b =
      if a ≤ b ∧ b < a + xs.length then xs.getD (b - a) 0 else m.read b := by
  induction xs generalizing a m with
  | nil => simp [Memory.writeAll]
  | cons x rest ih =>
    rw [Memory.writeAll, ih (a + 1) _ (Memory.write_wf a x m w), Memory.read_write a b x m w]
    by_cases h : a = b
    · subst h
      simp
    · by_cases g : a + 1 ≤ b ∧ b < a + 1 + rest.length
      · have k : a ≤ b ∧ b < a + (rest.length + 1) := by omega
        have e : b - a = (b - (a + 1)) + 1 := by omega
        simp only [g, k, List.length_cons, and_self, if_true]
        rw [e]
        simp [List.getD]
      · have k : ¬ (a ≤ b ∧ b < a + (rest.length + 1)) := by omega
        simp only [List.length_cons, g, k, h, if_false]

theorem reset_nvm_wf : nvmCanonical State.reset := by
  unfold nvmCanonical
  rfl

end Machine

end Sys2Proof
end

