-- ==== Sys2Proof/Laws/Outer.lean ====
section
/-! SUPPORT. What the planner, the link, the claim unit, the row and the sequencer never touch: the time unit,
the schedule store, the fault lines, the start-up record, the NVM, the inputs and the command queue. -/

set_option linter.all false

namespace Sys2Proof.Machine

/-- The part of the state that the shared operations of chapters 3 to 8 leave alone. -/
structure Outer where
  time : TimeUnit
  store : ScheduleStore
  lines : FaultLines
  start : StartUp
  nvm : Memory
  inputs : Inputs
  free : Nat
  pending : List Instr
  nvmPending : Option NvmCommand
  enables : Enables
  lamps : Table LampSetting 4
  sequence : Nat
  response : Response

/-- The outer part of a state. -/
def outer (s : State) : Outer :=
  ⟨s.time, s.store, s.lines, s.start, s.nvm, s.inputs, s.free, s.pending, s.sup.nvmPending, s.sup.enables,
   s.sup.lamps, s.sup.sequence, s.sup.response⟩

@[simp] theorem outer_mk (a b c d e f g h i j k l m n o p) :
    outer ⟨a, b, c, d, e, f, g, h, i, j, k, l, m, n, o, p⟩ =
      ⟨a, b, j, l, m, n, o, p, k.nvmPending, k.enables, k.lamps, k.sequence, k.response⟩ := rfl

@[simp] theorem outer_eta (s : State) :
    (⟨s.time, s.store, s.lines, s.start, s.nvm, s.inputs, s.free, s.pending, s.sup.nvmPending,
      s.sup.enables, s.sup.lamps, s.sup.sequence, s.sup.response⟩ : Outer) = outer s := rfl

@[simp] theorem outer_ite (c : Prop) [Decidable c] (a b : State) :
    outer (if c then a else b) = if c then outer a else outer b := by split <;> rfl

@[simp] theorem outer_foldl {α : Type} (f : State → α → State) (h : ∀ s a, outer (f s a) = outer s)
    (l : List α) (s : State) : outer (l.foldl f s) = outer s := by
  induction l generalizing s with
  | nil => rfl
  | cons a l ih => simp [List.foldl, ih, h]

@[simp] theorem outer_ite_fst {α : Type} (c : Prop) [Decidable c] (a b : State × α) :
    outer (if c then a else b).1 = if c then outer a.1 else outer b.1 := by split <;> rfl

@[simp] theorem outer_andThen (r : RowStep) (f : State → RowStep) (h : ∀ s, outer (f s).1 = outer s) :
    outer (RowStep.andThen r f).1 = outer r.1 := by simp [RowStep.andThen, h]

@[simp] theorem outer_file (kind : ReportKind) (subject detail : Nat) (s : State) :
    outer (file kind subject detail s) = outer s := by
  unfold file; (repeat' split) <;> simp

@[simp] theorem outer_setPoint (p : Nat) (f : Crosspoint → Crosspoint) (s : State) :
    outer (State.setPoint p f s) = outer s := by
  unfold State.setPoint; (repeat' split) <;> simp

@[simp] theorem outer_setRow (f : RowDriver → RowDriver) (s : State) :
    outer (State.setRow f s) = outer s := by
  unfold State.setRow; (repeat' split) <;> simp

@[simp] theorem outer_dropLeft (p : Nat) (s : State) :
    outer (dropLeft p s) = outer s := by
  unfold dropLeft; (repeat' split) <;> simp

@[simp] theorem outer_withdrawWaiting (s : State) :
    outer (withdrawWaiting s) = outer s := by
  unfold withdrawWaiting; (repeat' split) <;> simp

@[simp] theorem outer_setPort (p : Nat) (f : PortRecord → PortRecord) (s : State) :
    outer (State.setPort p f s) = outer s := by
  unfold State.setPort; (repeat' split) <;> simp

@[simp] theorem outer_setLink (f : Link → Link) (s : State) :
    outer (State.setLink f s) = outer s := by
  unfold State.setLink; (repeat' split) <;> simp

@[simp] theorem outer_offer (f : Frame) (refresh : Bool) (s : State) (asked : Bool) :
    outer (offer f refresh s asked).1 = outer s := by
  unfold offer; (repeat' split) <;> simp

@[simp] theorem outer_offerKept (f : Frame) (refresh : Bool) (s : State) (asked : Bool) :
    outer (offerKept f refresh s asked) = outer s := by
  unfold offerKept; (repeat' split) <;> simp

@[simp] theorem outer_offerLoose (f : Frame) (s : State) :
    outer (offerLoose f s) = outer s := by
  unfold offerLoose; (repeat' split) <;> simp

@[simp] theorem outer_offerRelease (p forBay : Nat) (s : State) :
    outer (offerRelease p forBay s) = outer s := by
  unfold offerRelease; (repeat' split) <;> simp

@[simp] theorem outer_refreshHold (p cls : Nat) (release : Option Nat) (s : State) :
    outer (refreshHold p cls release s) = outer s := by
  unfold refreshHold; (repeat' split) <;> simp

@[simp] theorem outer_askHold (p cls : Nat) (release : Option Nat) (s : State) :
    outer (askHold p cls release s) = outer s := by
  unfold askHold; (repeat' split) <;> simp

@[simp] theorem outer_offerPresence (rollCall restarted : Bool) (s : State) :
    outer (offerPresence rollCall restarted s) = outer s := by
  unfold offerPresence; (repeat' split) <;> simp

@[simp] theorem outer_lineGoesIdle (s : State) :
    outer (lineGoesIdle s) = outer s := by
  unfold lineGoesIdle; (repeat' split) <;> simp

@[simp] theorem outer_anotherStarts (s : State) :
    outer (anotherStarts s) = outer s := by
  unfold anotherStarts; (repeat' split) <;> simp

@[simp] theorem outer_sentWhole (s : State) :
    outer (sentWhole s) = outer s := by
  unfold sentWhole; (repeat' split) <;> simp

@[simp] theorem outer_contentionLost (s : State) :
    outer (contentionLost s) = outer s := by
  unfold contentionLost; (repeat' split) <;> simp

@[simp] theorem outer_becomeReceiver (s : State) :
    outer (becomeReceiver s) = outer s := by
  unfold becomeReceiver; (repeat' split) <;> simp

@[simp] theorem outer_dropHead (e : TxEntry) (rest : List TxEntry) (s : State) :
    outer (dropHead e rest s) = outer s := by
  unfold dropHead; (repeat' split) <;> simp

@[simp] theorem outer_spoilHead (s : State) :
    outer (spoilHead s).1 = outer s := by
  unfold spoilHead; (repeat' split) <;> simp

@[simp] theorem outer_attemptEndsSpoiled (inTailGuard : Bool) (s : State) :
    outer (attemptEndsSpoiled inTailGuard s).1 = outer s := by
  unfold attemptEndsSpoiled; (repeat' split) <;> simp

@[simp] theorem outer_withdrawFrame (p : Frame → Bool) (s : State) :
    outer (withdrawFrame p s) = outer s := by
  unfold withdrawFrame; (repeat' split) <;> simp

@[simp] theorem outer_dropAsked (p : Nat) (s : State) :
    outer (dropAsked p s) = outer s := by
  unfold dropAsked; (repeat' split) <;> simp

@[simp] theorem outer_unpark (s : State) :
    outer (unpark s) = outer s := by
  unfold unpark; (repeat' split) <;> simp

@[simp] theorem outer_reofferRefused (s : State) :
    outer (reofferRefused s) = outer s := by
  unfold reofferRefused; (repeat' split) <;> simp

@[simp] theorem outer_receiptIntent (b p cls start : Nat) (s : State) :
    outer (receiptIntent b p cls start s) = outer s := by
  unfold receiptIntent; (repeat' split) <;> simp

@[simp] theorem outer_freeIntents (b p : Nat) (s : State) :
    outer (freeIntents b p s) = outer s := by
  unfold freeIntents; (repeat' split) <;> simp

@[simp] theorem outer_enterHold (b p cls : Nat) (release : Option Nat) (s : State) :
    outer (enterHold b p cls release s) = outer s := by
  unfold enterHold; (repeat' split) <;> simp

@[simp] theorem outer_receiptHold (b p cls : Nat) (release : Option Nat) (s : State) :
    outer (receiptHold b p cls release s) = outer s := by
  unfold receiptHold; (repeat' split) <;> simp

@[simp] theorem outer_receiptObject (b h reason : Nat) (release : Option Nat) (s : State) :
    outer (receiptObject b h reason release s) = outer s := by
  unfold receiptObject; (repeat' split) <;> simp

@[simp] theorem outer_receiptRelease (p forBay : Nat) (s : State) :
    outer (receiptRelease p forBay s) = outer s := by
  unfold receiptRelease; (repeat' split) <;> simp

@[simp] theorem outer_receiptSuspect (b p cause : Nat) (s : State) :
    outer (receiptSuspect b p cause s) = outer s := by
  unfold receiptSuspect; (repeat' split) <;> simp

@[simp] theorem outer_receiptClear (p : Nat) (s : State) :
    outer (receiptClear p s) = outer s := by
  unfold receiptClear; (repeat' split) <;> simp

@[simp] theorem outer_receiptPresence (b : Nat) (body : PresenceBody) (s : State) :
    outer (receiptPresence b body s) = outer s := by
  unfold receiptPresence; (repeat' split) <;> simp

@[simp] theorem outer_lapseIntents (s : State) :
    outer (lapseIntents s) = outer s := by
  unfold lapseIntents; (repeat' split) <;> simp

@[simp] theorem outer_enterClosed (p : Nat) (s : State) :
    outer (enterClosed p s) = outer s := by
  unfold enterClosed; (repeat' split) <;> simp

@[simp] theorem outer_enterMaint (p : Nat) (s : State) :
    outer (enterMaint p s) = outer s := by
  unfold enterMaint; (repeat' split) <;> simp

@[simp] theorem outer_setPeer (b : Nat) (f : PeerRecord → PeerRecord) (s : State) :
    outer (State.setPeer b f s) = outer s := by
  unfold State.setPeer; (repeat' split) <;> simp

@[simp] theorem outer_heardFrom (b : Nat) (s : State) :
    outer (heardFrom b s) = outer s := by
  unfold heardFrom; (repeat' split) <;> simp

@[simp] theorem outer_peerStates (b : Nat) (body : PresenceBody) (s : State) :
    outer (peerStates b body s) = outer s := by
  unfold peerStates; (repeat' split) <;> simp

@[simp] theorem outer_silencePeers (s : State) :
    outer (silencePeers s) = outer s := by
  unfold silencePeers; (repeat' split) <;> simp

@[simp] theorem outer_refreshDemand (s : State) :
    outer (refreshDemand s) = outer s := by
  unfold refreshDemand; (repeat' split) <;> simp

@[simp] theorem outer_foldbackEnds (s : State) :
    outer (foldbackEnds s) = outer s := by
  unfold foldbackEnds; (repeat' split) <;> simp

@[simp] theorem outer_retargetLimit (s : State) :
    outer (retargetLimit s) = outer s := by
  unfold retargetLimit; (repeat' split) <;> simp

@[simp] theorem outer_retarget (s : State) :
    outer (retarget s) = outer s := by
  unfold retarget; (repeat' split) <;> simp

@[simp] theorem outer_foldbackSample (x : Sample) (s : State) :
    outer (foldbackSample x s) = outer s := by
  unfold foldbackSample; (repeat' split) <;> simp

@[simp] theorem outer_recoveryStep (s : State) :
    outer (recoveryStep s) = outer s := by
  unfold recoveryStep; (repeat' split) <;> simp

@[simp] theorem outer_capStep (s : State) :
    outer (capStep s) = outer s := by
  unfold capStep; (repeat' split) <;> simp

@[simp] theorem outer_ageTrips (s : State) :
    outer (ageTrips s) = outer s := by
  unfold ageTrips; (repeat' split) <;> simp

@[simp] theorem outer_setCurrent (f : Current → Current) (s : State) :
    outer (State.setCurrent f s) = outer s := by
  unfold State.setCurrent; (repeat' split) <;> simp

@[simp] theorem outer_setRecord (h : Holder) (f : Assignment → Assignment) (s : State) :
    outer (State.setRecord h f s) = outer s := by
  unfold State.setRecord; (repeat' split) <;> simp

@[simp] theorem outer_setClaim (h : Holder) (f : Claim → Claim) (s : State) :
    outer (State.setClaim h f s) = outer s := by
  unfold State.setClaim; (repeat' split) <;> simp

@[simp] theorem outer_failedScan (h : Holder) (a : Assignment) (s : State) :
    outer (failedScan h a s) = outer s := by
  unfold failedScan; (repeat' split) <;> simp

@[simp] theorem outer_claimDropped (h : Holder) (p : Nat) (s : State) :
    outer (claimDropped h p s) = outer s := by
  unfold claimDropped; (repeat' split) <;> simp

@[simp] theorem outer_offerIntent (h : Holder) (p cls start : Nat) (s : State) :
    outer (offerIntent h p cls start s) = outer s := by
  unfold offerIntent; (repeat' split) <;> simp

@[simp] theorem outer_claimChosen (n : Nat) (h : Holder) (s : State) :
    outer (claimChosen n h s) = outer s := by
  induction n generalizing s with
  | zero => rfl
  | succ n ih => unfold claimChosen; (repeat' split) <;> simp [ih]

@[simp] theorem outer_beginClaim (h : Holder) (s : State) : outer (beginClaim h s) = outer s := by
  simp [beginClaim]

@[simp] theorem outer_writeManualEnd (s : State) :
    outer (writeManualEnd s) = outer s := by
  unfold writeManualEnd; (repeat' split) <;> simp

@[simp] theorem outer_syncCurrent (s : State) :
    outer (syncCurrent s) = outer s := by
  unfold syncCurrent; (repeat' split) <;> simp

@[simp] theorem outer_withdrawMoved (was : Option Nat) (s : State) :
    outer (withdrawMoved was s) = outer s := by
  unfold withdrawMoved; (repeat' split) <;> simp

@[simp] theorem outer_scanAgain (h : Holder) (s : State) :
    outer (scanAgain h s) = outer s := by
  unfold scanAgain; (repeat' split) <;> simp

@[simp] theorem outer_restartScan (h : Holder) (s : State) :
    outer (restartScan h s) = outer s := by
  unfold restartScan; (repeat' split) <;> simp

@[simp] theorem outer_restartAhead (s : State) :
    outer (restartAhead s) = outer s := by
  simp [restartAhead]

@[simp] theorem outer_lostScan (h : Holder) (p : Nat) (s : State) :
    outer (lostScan h p s) = outer s := by
  unfold lostScan; (repeat' split) <;> simp

@[simp] theorem outer_dropClaim (c : Claim) (p cls start : Nat) (spare : Option Nat) (s : State) :
    outer (dropClaim c p cls start spare s) = outer s := by
  unfold dropClaim; (repeat' split) <;> simp

@[simp] theorem outer_abandonClaim (h : Holder) (spare : Option Nat) (s : State) :
    outer (abandonClaim h spare s) = outer s := by
  unfold abandonClaim; (repeat' split) <;> simp

@[simp] theorem outer_setFloor (x : Nat) (s : State) :
    outer (State.setFloor x s) = outer s := by
  unfold State.setFloor; (repeat' split) <;> simp

@[simp] theorem outer_fileMissed (a : Assignment) (s : State) :
    outer (fileMissed a s) = outer s := by
  unfold fileMissed; (repeat' split) <;> simp

@[simp] theorem outer_formNext (n : Nat) (s : State) : outer (formNext n s) = outer s := by
  induction n generalizing s with
  | zero => rfl
  | succ n ih => unfold formNext; (repeat' split) <;> simp [ih]

@[simp] theorem outer_planNext (s : State) : outer (planNext s) = outer s := by
  unfold planNext; (repeat' split) <;> simp

@[simp] theorem outer_restateKept (old : Assignment) (s : State) :
    outer (restateKept old s) = outer s := by
  unfold restateKept; (repeat' split) <;> simp

@[simp] theorem outer_dropRecord (old : Assignment) (s : State) :
    outer (dropRecord old s) = outer s := by
  unfold dropRecord; (repeat' split) <;> simp

@[simp] theorem outer_withoutNext (s : State) :
    outer (State.withoutNext s) = outer s := by
  unfold State.withoutNext; (repeat' split) <;> simp

@[simp] theorem outer_discardNext (s : State) :
    outer (discardNext s) = outer s := by
  unfold discardNext; (repeat' split) <;> simp

@[simp] theorem outer_keepRecord (old : Assignment) (s : State) :
    outer (keepRecord old s) = outer s := by
  unfold keepRecord; (repeat' split) <;> simp

@[simp] theorem outer_planAfresh (s : State) :
    outer (planAfresh s) = outer s := by
  unfold planAfresh; (repeat' split) <;> simp

@[simp] theorem outer_replan (s : State) :
    outer (replan s) = outer s := by
  unfold replan; (repeat' split) <;> simp

@[simp] theorem outer_planTaken (s : State) :
    outer (planTaken s) = outer s := by
  unfold planTaken; (repeat' split) <;> simp

@[simp] theorem outer_writeEnd (e : Nat) (s : State) :
    outer (writeEnd e s) = outer s := by
  unfold writeEnd; (repeat' split) <;> simp

/-! A kept record and a current assignment read afresh (R35, entry 93): the bank and the occurrence's end alone may
change. -/

@[simp] theorem readFrom_bank (o : Occurrence) (a : Assignment) : (a.readFrom o).bank = o.bank := rfl

@[simp] theorem readFrom_occEnd (o : Occurrence) (a : Assignment) : (a.readFrom o).occEnd = o.stop := rfl

theorem readFrom_frame (o : Occurrence) (a : Assignment) :
    { a.readFrom o with bank := a.bank, occEnd := a.occEnd } = a := rfl

/-- What reading a current assignment afresh can do. -/
theorem reread_cases (s : State) (c : Current) :
    s.reread c = c ∨
      ∃ o, bankAt s.store c.segStart = some o ∧ c.heldOver = false ∧ c.source = .entry o.number o.day ∧
        s.reread c = { c with toAssignment := c.toAssignment.readFrom o } := by
  unfold State.reread
  split
  · next o h =>
    split
    · next g => exact .inr ⟨o, h, g.1, g.2, rfl⟩
    · exact .inl rfl
  · exact .inl rfl

theorem reread_frame (s : State) (c : Current) :
    { s.reread c with bank := c.bank, occEnd := c.occEnd } = c := by
  obtain h | ⟨o, -, -, -, h⟩ := reread_cases s c <;> rw [h]
  rfl

@[simp] theorem outer_recutCurrent (s : State) :
    outer (recutCurrent s) = outer s := by
  unfold recutCurrent; (repeat' split) <;> simp

@[simp] theorem outer_restateEnd (before s : State) :
    outer (restateEnd before s) = outer s := by
  unfold restateEnd; (repeat' split) <;> simp

@[simp] theorem outer_replanFrom (before s : State) :
    outer (replanFrom before s) = outer s := by
  unfold replanFrom; (repeat' split) <;> simp

@[simp] theorem outer_replanAll (s : State) :
    outer (replanAll s) = outer s := by
  unfold replanAll; (repeat' split) <;> simp

@[simp] theorem outer_holdOver (former : Nat) (s : State) :
    outer (holdOver former s) = outer s := by
  unfold holdOver; (repeat' split) <;> simp

@[simp] theorem outer_unsettleCurrent (s : State) :
    outer (unsettleCurrent s) = outer s := by
  unfold unsettleCurrent; (repeat' split) <;> simp

@[simp] theorem outer_settle (h : Holder) (s : State) :
    outer (settle h s) = outer s := by
  unfold settle; (repeat' split) <;> simp

@[simp] theorem outer_giveUpNext (a : Assignment) (s : State) :
    outer (giveUpNext a s) = outer s := by
  unfold giveUpNext; (repeat' split) <;> simp

@[simp] theorem outer_startPulse (m : Motion) (p : Nat) (s : State) :
    outer (startPulse m p s) = outer s := by
  unfold startPulse; (repeat' split) <;> simp

@[simp] theorem outer_fileCrosspoint (p cause rest reading : Nat) (s : State) :
    outer (fileCrosspoint p cause rest reading s) = outer s := by
  unfold fileCrosspoint; (repeat' split) <;> simp

@[simp] theorem outer_startCommand (c : RowCommand) (s : State) :
    outer (startCommand c s).1 = outer s := by
  unfold startCommand; (repeat' split) <;> simp

@[simp] theorem outer_recovered (p : Nat) (s : State) :
    outer (recovered p s) = outer s := by
  unfold recovered; (repeat' split) <;> simp

@[simp] theorem outer_tryRecovery (s : State) :
    outer (tryRecovery s).1 = outer s := by
  unfold tryRecovery; (repeat' split) <;> simp

@[simp] theorem outer_tryWaiting (s : State) :
    outer (tryWaiting s).1 = outer s := by
  unfold tryWaiting; (repeat' split) <;> simp

@[simp] theorem outer_tryStart (s : State) :
    outer (tryStart s).1 = outer s := by
  unfold tryStart; (repeat' split) <;> simp

@[simp] theorem outer_rowCommand (c : RowCommand) (s : State) :
    outer (rowCommand c s).1 = outer s := by
  unfold rowCommand; (repeat' split) <;> simp

@[simp] theorem outer_closeFailure (p cause : Nat) (s : State) :
    outer (closeFailure p cause s).1 = outer s := by
  unfold closeFailure; (repeat' split) <;> simp

@[simp] theorem outer_openFailure (p : Nat) (s : State) :
    outer (openFailure p s).1 = outer s := by
  unfold openFailure; (repeat' split) <;> simp

@[simp] theorem outer_strayChange (p : Nat) (s : State) :
    outer (strayChange p s).1 = outer s := by
  unfold strayChange; (repeat' split) <;> simp

@[simp] theorem outer_restChange (p : Nat) (s : State) :
    outer (restChange p s).1 = outer s := by
  unfold restChange; (repeat' split) <;> simp

@[simp] theorem outer_pulseOpened (p : Nat) (s : State) :
    outer (pulseOpened p s).1 = outer s := by
  unfold pulseOpened; (repeat' split) <;> simp

@[simp] theorem outer_contactChange (p : Nat) (new : Reading) (s : State) :
    outer (contactChange p new s).1 = outer s := by
  unfold contactChange; (repeat' split) <;> simp

@[simp] theorem outer_keepSamples (s : State) : outer (keepSamples s) = outer s := rfl

@[simp] theorem outer_travelExpired (s : State) :
    outer (travelExpired s).1 = outer s := by
  unfold travelExpired; (repeat' split) <;> simp

@[simp] theorem outer_settleExpired (s : State) :
    outer (settleExpired s).1 = outer s := by
  unfold settleExpired; (repeat' split) <;> simp

@[simp] theorem outer_acceptClosed (p : Nat) (s : State) :
    outer (acceptClosed p s) = outer s := by
  unfold acceptClosed; (repeat' split) <;> simp

end Sys2Proof.Machine
end

