-- ==== Sys2Proof/Laws/OuterSeq.lean ====
section
/-! SUPPORT. The sequencer leaves the outer part of the state alone. -/

set_option linter.all false

namespace Sys2Proof.Machine

@[simp] theorem outer_setSeq (f : Sequencer → Sequencer) (s : State) :
    outer (State.setSeq f s) = outer s := by
  unfold State.setSeq; (repeat' split) <;> simp

@[simp] theorem outer_startWatch (onRise : Bool) (s : State) :
    outer (startWatch onRise s) = outer s := by
  unfold startWatch; (repeat' split) <;> simp

@[simp] theorem outer_removePermit (s : State) :
    outer (removePermit s) = outer s := by
  unfold removePermit; (repeat' split) <;> simp

@[simp] theorem outer_enterGuard (s : State) :
    outer (enterGuard s) = outer s := by
  unfold enterGuard; (repeat' split) <;> simp

@[simp] theorem outer_enterMuting (d0 : Nat) (s : State) :
    outer (enterMuting d0 s) = outer s := by
  unfold enterMuting; (repeat' split) <;> simp

@[simp] theorem outer_enterPaused (s : State) :
    outer (enterPaused s) = outer s := by
  unfold enterPaused; (repeat' split) <;> simp

@[simp] theorem outer_enterRestartHold (s : State) :
    outer (enterRestartHold s) = outer s := by
  unfold enterRestartHold; (repeat' split) <;> simp

@[simp] theorem outer_restateHeld (was : State) (s : State) :
    outer (restateHeld was s) = outer s := by
  unfold restateHeld; (repeat' split) <;> simp

@[simp] theorem outer_enterLocked (s : State) :
    outer (enterLocked s) = outer s := by
  unfold enterLocked; (repeat' split) <;> simp

@[simp] theorem outer_enterMatrixFault (s : State) :
    outer (enterMatrixFault s) = outer s := by
  unfold enterMatrixFault; (repeat' split) <;> simp

@[simp] theorem outer_raiseSuspect (p cause : Nat) (s : State) :
    outer (raiseSuspect p cause s) = outer s := by
  unfold raiseSuspect; (repeat' split) <;> simp

@[simp] theorem outer_obeyLockout (s : State) :
    outer (obeyLockout s) = outer s := by
  unfold obeyLockout; (repeat' split) <;> simp

@[simp] theorem outer_declareLockout (cause : LockoutCause) (s : State) :
    outer (declareLockout cause s) = outer s := by
  unfold declareLockout
  split
  · rfl
  · extract_lets port record p1 s1 s2 s3
    have h2 : outer s2 = outer s := by simp [s2, s1, p1]
    have h : outer s3 = outer s := by
      simp only [s3]; clear_value s2 s1 p1 record port; split <;> simp [h2]
    simp [h]

@[simp] theorem outer_trip (cause : TripCause) (sv : Nat) (s : State) :
    outer (trip cause sv s) = outer s := by
  unfold trip; (repeat' split) <;> simp

@[simp] theorem outer_sendTune (f attempt : Nat) (s : State) :
    outer (sendTune f attempt s) = outer s := by
  unfold sendTune; (repeat' split) <;> simp

@[simp] theorem outer_stopTune (s : State) :
    outer (stopTune s) = outer s := by
  unfold stopTune; (repeat' split) <;> simp

@[simp] theorem outer_requestTune (s : State) :
    outer (requestTune s) = outer s := by
  unfold requestTune; (repeat' split) <;> simp

@[simp] theorem outer_enterRamping (c : Current) (s : State) :
    outer (enterRamping c s) = outer s := by
  unfold enterRamping; simp only []; (repeat' split) <;> simp

@[simp] theorem outer_enterIdle (s : State) :
    outer (enterIdle s) = outer s := by
  unfold enterIdle; (repeat' split) <;> simp

@[simp] theorem outer_clearManual (s : State) :
    outer (clearManual s) = outer s := by
  unfold clearManual; (repeat' split) <;> simp

@[simp] theorem outer_resume (s : State) :
    outer (resume s) = outer s := by
  unfold resume; (repeat' split) <;> simp

@[simp] theorem outer_firstOnAir (s : State) :
    outer (firstOnAir s) = outer s := by
  unfold firstOnAir; (repeat' split) <;> simp

@[simp] theorem outer_reachTarget (s : State) :
    outer (reachTarget s) = outer s := by
  unfold reachTarget; (repeat' split) <;> simp

@[simp] theorem outer_rebase (ramp : Nat) (s : State) :
    outer (rebase ramp s) = outer s := by
  unfold rebase; simp only []; (repeat' split) <;> simp

@[simp] theorem outer_askRelease (p : Nat) (s : State) :
    outer (askRelease p s) = outer s := by
  unfold askRelease; (repeat' split) <;> simp

@[simp] theorem outer_unsetManual (p : Nat) (s : State) :
    outer (unsetManual p s) = outer s := by
  unfold unsetManual; (repeat' split) <;> simp

@[simp] theorem outer_loseClosing (p : Nat) (s : State) :
    outer (loseClosing p s) = outer s := by
  unfold loseClosing; (repeat' split) <;> simp

@[simp] theorem outer_dropIdleLeft (s : State) :
    outer (dropIdleLeft s) = outer s := by
  unfold dropIdleLeft; (repeat' split) <;> simp

@[simp] theorem outer_applyAnswer (s : State) (a : RowAnswer) :
    outer (applyAnswer s a) = outer s := by
  unfold applyAnswer; (repeat' split) <;> simp

@[simp] theorem outer_applyAnswers (r : RowStep) :
    outer (applyAnswers r) = outer r.1 := by
  unfold applyAnswers; (repeat' split) <;> simp

@[simp] theorem outer_rowGoalMet (s : State) :
    outer (rowGoalMet s) = outer s := by
  unfold rowGoalMet; (repeat' split) <;> simp

@[simp] theorem outer_workRow (n : Nat) (s : State) : outer (workRow n s) = outer s := by
  induction n generalizing s with
  | zero => rfl
  | succ n ih => unfold workRow; simp only []; (repeat' split) <;> simp [ih]

@[simp] theorem outer_showSettling (s : State) : outer (showSettling s) = outer s := by
  unfold showSettling; (repeat' split) <;> simp

@[simp] theorem outer_work (s : State) :
    outer (work s) = outer s := by
  unfold work; (repeat' split) <;> simp

@[simp] theorem outer_afterRow (r : RowStep) :
    outer (afterRow r) = outer r.1 := by
  unfold afterRow; (repeat' split) <;> simp

@[simp] theorem outer_retargetRow (s : State) :
    outer (retargetRow s) = outer s := by
  unfold retargetRow; (repeat' split) <;> simp

@[simp] theorem outer_showOutstanding (s : State) : outer (showOutstanding s) = outer s := by
  simp [showOutstanding]

@[simp] theorem outer_enterReposition (s : State) :
    outer (enterReposition s) = outer s := by
  unfold enterReposition; (repeat' split) <;> simp

@[simp] theorem outer_applyInhibit (s : State) :
    outer (applyInhibit s) = outer s := by
  unfold applyInhibit; (repeat' split) <;> simp

@[simp] theorem outer_liftInhibit (s : State) :
    outer (liftInhibit s) = outer s := by
  unfold liftInhibit; (repeat' split) <;> simp

@[simp] theorem outer_resetManual (s : State) :
    outer (resetManual s) = outer s := by
  unfold resetManual; (repeat' split) <;> simp

@[simp] theorem outer_loosenNext (s : State) :
    outer (loosenNext s) = outer s := by
  unfold loosenNext; (repeat' split) <;> simp

@[simp] theorem outer_loosenKept (s : State) :
    outer (loosenKept s) = outer s := by
  unfold loosenKept; (repeat' split) <;> simp

@[simp] theorem outer_fileEnd (missed : Bool) (c : Current) (s : State) :
    outer (fileEnd missed c s) = outer s := by
  unfold fileEnd; (repeat' split) <;> simp

@[simp] theorem outer_endPath (d0 : Nat) (s : State) :
    outer (endPath d0 s) = outer s := by
  unfold endPath; (repeat' split) <;> simp

@[simp] theorem outer_giveBack (c : Current) (spare : Option Nat) (s : State) :
    outer (giveBack c spare s) = outer s := by
  unfold giveBack; (repeat' split) <;> simp

@[simp] theorem outer_clearCurrent (abandon : Bool) (floor : Nat) (s : State) :
    outer (clearCurrent abandon floor s) = outer s := by
  unfold clearCurrent; (repeat' split) <;> simp

@[simp] theorem outer_endSegment (missed : Bool) (c : Current) (s : State) :
    outer (endSegment missed c s) = outer s := by
  unfold endSegment; (repeat' split) <;> simp

@[simp] theorem outer_continuation (ramp : Nat) (s : State) :
    outer (continuation ramp s) = outer s := by
  unfold continuation; (repeat' split) <;> simp

@[simp] theorem outer_repositionTaken (s : State) :
    outer (repositionTaken s) = outer s := by
  unfold repositionTaken; (repeat' split) <;> simp

@[simp] theorem outer_keepTuned (f : Option Nat) (s : State) :
    outer (keepTuned f s) = outer s := by
  unfold keepTuned; (repeat' split) <;> simp

@[simp] theorem outer_takeoverPath (same : Bool) (ramp d0 : Nat) (s : State) :
    outer (takeoverPath same ramp d0 s) = outer s := by
  unfold takeoverPath; (repeat' split) <;> simp

@[simp] theorem outer_takeover (missed : Bool) (a : Assignment) (s : State) :
    outer (takeover missed a s) = outer s := by
  unfold takeover; (repeat' split) <;> simp

@[simp] theorem outer_currentEnds (missed : Bool) (s : State) :
    outer (currentEnds missed s) = outer s := by
  unfold currentEnds; (repeat' split) <;> simp

@[simp] theorem outer_untarget (p : Nat) (s : State) : outer (untarget p s) = outer s := by
  unfold untarget
  extract_lets s1
  have h : outer s1 = outer s := by simp only [s1]; split <;> simp
  clear_value s1
  (repeat' split) <;> simp [h]

@[simp] theorem outer_yieldPath (p : Nat) (s : State) :
    outer (yieldPath p s) = outer s := by
  unfold yieldPath; (repeat' split) <;> simp

@[simp] theorem outer_yieldPort (p : Nat) (s : State) :
    outer (yieldPort p s) = outer s := by
  unfold yieldPort; (repeat' split) <;> simp

@[simp] theorem outer_yieldLeft (s : State) :
    outer (yieldLeft s) = outer s := by
  unfold yieldLeft; (repeat' split) <;> simp

@[simp] theorem outer_leaveFault (s : State) :
    outer (leaveFault s) = outer s := by
  unfold leaveFault; (repeat' split) <;> simp

@[simp] theorem outer_leaveMatrixFault (closed : Option Nat) (s : State) :
    outer (leaveMatrixFault closed s) = outer s := by
  unfold leaveMatrixFault
  extract_lets s1 open' s2 s3
  have h1 : outer s1 = outer s := by
    simp only [s1]
    split
    · split <;> simp
    · rfl
  have h2 : outer s2 = outer s := by simp [s2, h1]
  have h3 : outer s3 = outer s := by simp [s3, h2]
  clear_value s1 open' s2 s3
  split <;> simp [h3]

end Sys2Proof.Machine
end

