-- ==== Sys2Proof/Laws/OuterHall.lean ====
section
/-! SUPPORT. A frame taken, a fault line and the store leave the outer part of the state alone. -/

set_option linter.all false

namespace Sys2Proof.Machine

@[simp] theorem outer_shapeManual (s : State) :
    outer (shapeManual s) = outer s := by
  unfold shapeManual; (repeat' split) <;> simp

@[simp] theorem outer_requestUnmet (s : State) :
    outer (requestUnmet s) = outer s := by
  unfold requestUnmet; (repeat' split) <;> simp

@[simp] theorem outer_changePath (d0 : Nat) (s : State) :
    outer (changePath d0 s) = outer s := by
  unfold changePath; (repeat' split) <;> simp

@[simp] theorem outer_manualWon (p : Nat) (s : State) :
    outer (manualWon p s) = outer s := by
  unfold manualWon; (repeat' split) <;> simp

@[simp] theorem outer_setMaint (p : Nat) (f : MaintEntry → MaintEntry) (s : State) :
    outer (State.setMaint p f s) = outer s := by
  unfold State.setMaint; (repeat' split) <;> simp

@[simp] theorem outer_maintWaits (e : MaintEntry) (s : State) :
    outer (maintWaits e s) = outer s := by
  unfold maintWaits; (repeat' split) <;> simp

@[simp] theorem outer_maintClaim (e : MaintEntry) (s : State) :
    outer (maintClaim e s) = outer s := by
  unfold maintClaim; (repeat' split) <;> simp

@[simp] theorem outer_postLost (h : Holder) (p : Nat) (s : State) :
    outer (postLost h p s) = outer s := by
  unfold postLost; (repeat' split) <;> simp

@[simp] theorem outer_loseClaim (h : Holder) (p cause bay : Nat) (s : State) :
    outer (loseClaim h p cause bay s) = outer s := by
  unfold loseClaim; (repeat' split) <;> simp

@[simp] theorem outer_winClaim (h : Holder) (p cls : Nat) (s : State) :
    outer (winClaim h p cls s) = outer s := by
  unfold winClaim; (repeat' split) <;> simp

@[simp] theorem outer_testWindow (s : State) (h : Holder) :
    outer (testWindow s h) = outer s := by
  unfold testWindow; (repeat' split) <;> simp

@[simp] theorem outer_testWindows (s : State) :
    outer (testWindows s) = outer s := by
  unfold testWindows; (repeat' split) <;> simp

@[simp] theorem outer_openWindow (p cls start : Nat) (s : State) :
    outer (openWindow p cls start s) = outer s := by
  unfold openWindow; (repeat' split) <;> simp

@[simp] theorem outer_windowEnds (h : Holder) (s : State) :
    outer (windowEnds h s) = outer s := by
  unfold windowEnds; (repeat' split) <;> simp

@[simp] theorem outer_decideHold (h : Holder) (p cls : Nat) (s : State) :
    outer (decideHold h p cls s) = outer s := by
  unfold decideHold; (repeat' split) <;> simp

@[simp] theorem outer_claimHoldEcho (p cls : Nat) (s : State) :
    outer (claimHoldEcho p cls s) = outer s := by
  unfold claimHoldEcho; (repeat' split) <;> simp

@[simp] theorem outer_refreshEcho (p : Nat) (s : State) :
    outer (refreshEcho p s) = outer s := by
  unfold refreshEcho; (repeat' split) <;> simp

@[simp] theorem outer_noteHold (p : Nat) (s : State) :
    outer (noteHold p s) = outer s := by
  unfold noteHold; (repeat' split) <;> simp

@[simp] theorem outer_noteRelease (p : Nat) (s : State) :
    outer (noteRelease p s) = outer s := by
  unfold noteRelease; (repeat' split) <;> simp

@[simp] theorem outer_presenceEcho (body : PresenceBody) (s : State) :
    outer (presenceEcho body s) = outer s := by
  unfold presenceEcho; (repeat' split) <;> simp

@[simp] theorem outer_ownEcho (e : TxEntry) (f : Frame) (s : State) :
    outer (ownEcho e f s) = outer s := by
  unfold ownEcho; (repeat' split) <;> simp

@[simp] theorem outer_setConflicts (b : Nat) (body : PresenceBody) (s : State) :
    outer (setConflicts b body s) = outer s := by
  unfold setConflicts; (repeat' split) <;> simp

@[simp] theorem outer_actConflict (b q p : Nat) (s : State) : outer (actConflict b q p s) = outer s := by
  unfold actConflict
  extract_lets r s1
  have h1 : outer s1 = outer s := by simp [s1]
  clear_value r s1
  (repeat' split) <;> simp [h1]

@[simp] theorem outer_pruneConflicts (s : State) :
    outer (pruneConflicts s) = outer s := by
  unfold pruneConflicts; (repeat' split) <;> simp

@[simp] theorem outer_releasedConflicts (b p forBay : Nat) (s : State) :
    outer (releasedConflicts b p forBay s) = outer s := by
  unfold releasedConflicts; (repeat' split) <;> simp

@[simp] theorem outer_applyConflicts (b : Nat) (body : PresenceBody) (s : State) :
    outer (applyConflicts b body s) = outer s := by
  unfold applyConflicts; (repeat' split) <;> simp

@[simp] theorem outer_answerIntent (p : Nat) (s : State) :
    outer (answerIntent p s) = outer s := by
  unfold answerIntent; (repeat' split) <;> simp

@[simp] theorem outer_objectLoses (b p : Nat) (s : State) :
    outer (objectLoses b p s) = outer s := by
  unfold objectLoses; (repeat' split) <;> simp

@[simp] theorem outer_releaseHeard (b p forBay : Nat) (s : State) :
    outer (releaseHeard b p forBay s) = outer s := by
  unfold releaseHeard; (repeat' split) <;> simp

@[simp] theorem outer_suspectsHeard (b : Nat) (body : PresenceBody) (s : State) :
    outer (suspectsHeard b body s) = outer s := by
  unfold suspectsHeard; (repeat' split) <;> simp

@[simp] theorem outer_presenceHeard (b : Nat) (body : PresenceBody) (s : State) :
    outer (presenceHeard b body s) = outer s := by
  unfold presenceHeard; (repeat' split) <;> simp

@[simp] theorem outer_foreignFrame (b : Nat) (f : Frame) (s : State) :
    outer (foreignFrame b f s) = outer s := by
  unfold foreignFrame; (repeat' split) <;> simp

@[simp] theorem outer_endWaits (before : State) (s : State) :
    outer (endWaits before s) = outer s := by
  unfold endWaits; (repeat' split) <;> simp

@[simp] theorem outer_retestMaint (before : State) (s : State) :
    outer (retestMaint before s) = outer s := by
  unfold retestMaint; (repeat' split) <;> simp

@[simp] theorem outer_afterFrame (before : State) (s : State) :
    outer (afterFrame before s) = outer s := by
  unfold afterFrame; (repeat' split) <;> simp

@[simp] theorem outer_takeFrame (b : Nat) (f : Frame) (s : State) :
    outer (takeFrame b f s) = outer s := by
  unfold takeFrame; (repeat' split) <;> simp

end Sys2Proof.Machine
end

