-- ==== Sys2Proof/Tests/Slice0.lean ====
section
/-! SUPPORT. The model's own checks: ill-formed commands, the bytes of transactions and frames, the worked figures
of the spec, one step of each family, and for each statement a state in which its hypotheses hold. Expected values
come from the spec's tables or are worked by hand from its rules. -/

namespace Sys2Proof.Tests

set_option maxRecDepth 8000
set_option Elab.async false

open Sys2Proof Sys2Proof.Machine

/-! ## Helpers -/

/-- The answer is a next state that passes a check. -/
def gives (r : Host.Outcome State Fault Refusal) (p : State → Bool) : Bool :=
  match r with
  | .next t => p t
  | _ => false

/-- The result the port holds. -/
def result (t : State) : Option Result := t.sup.response.result

/-- An antenna table of sixteen curtains of two ports, every port in band everywhere with 2500 pu. -/
def pairs : Table AntennaRow 32 :=
  (Table.fill 32 (default : AntennaRow)).mapIdx (fun p _ =>
    { curtain := p / 2, fmin := 3900, fmax := 26100, maxPower := 2500 })

/-- The default configuration with that table. -/
def hall : Params := { Params.builtIn with antenna := some pairs }

/-- Bay 5 in service and idle at stamp 830 433 600 and elapsed count 100, LOCKED, with nothing queued. -/
def idle : State :=
  { State.reset with
    time := { TimeUnit.initial with day := 9611, second := 43200, elapsed := 100, osc := 5000,
                                    phaseZero := 5000, quality := .locked }
    start := { StartUp.initial with params := hall, outcome := some .loaded, bay := 5, step := .done }
    link := { Link.initial with engine := .idle }
    hall := { ClaimUnit.initial with lastPresence := 100 }
    row := { RowDriver.initial with watching := true }
    sup := Supervisor.initial }

/-- A next record for port 8, class 2, from a segment of an hour that starts at 830 433 700. -/
def record : Assignment :=
  { source := .entry 3 9611, bank := 0, occEnd := 830437300, heldOver := false, segStart := 830433700,
    segEnd := some 830437300, freq := some 9410, power := 2000, cls := 2, programme := 4,
    ports := [(8, false), (10, false)], chosen := some 8, keepsPort := false, waitPort := none,
    kind := .first, path := .full, chained := false, lead := 15, changeoverStart := 830433685,
    claimTime := 830433655, giveUp := 830437240, release := some 830437300, claim := Claim.fresh }

/-- The idle bay with that record next. -/
def planned (f : Assignment → Assignment) : State := { idle with plan := { floor := 0, next := some (f record) } }

/-- The same segment as a current assignment that has won port 8. -/
def current : Current :=
  { toAssignment := { record with segStart := 830433000, claim := { Claim.fresh with state := .won, begun := true } },
    port := some 8, onAirStamp := some 830433010, onAirCount := some 60 }

/-- Port 8 held by bay 5, its crosspoint closed and settled. -/
def joined (s : State) : State :=
  (s.setPort 8 (fun r => { r with mark := .held 5 2 (some 830437300), standing := some .confirmed,
                                  lastEcho := .hold })).setPoint 8
    (fun x => { x with reading := .atClosed, rest := .atClosed, settled := true })

/-- Bay 5 on the air on port 8 with T = 2000, tuned to 9410 kHz, RF-present and tune done active. -/
def air : State :=
  let s := joined idle
  { s with
    seq := { s.seq with state := .onAir, permit := true, current := some current, tuneSub := .tuned,
                        tuneFreq := some 9410, stepCount := 10, programme := 4, rfOff := none }
    prot := { Protection.initial 2000 with demand := 2000, txDropArmed := true, sampleDue := some 5010 }
    inputs := { s.inputs with rfPresent := true, tuneDone := true } }

/-- The air state in another sequencer state, with the permit off. -/
def off (q : SeqState) : State :=
  { air with seq := { air.seq with state := q, permit := false, rfOff := some 0 },
             prot := { air.prot with demand := 0, sampleDue := none, txDropArmed := false },
             inputs := { air.inputs with rfPresent := false } }

/-- A READY entry of the transmit queue. -/
def ready (f : Frame) : TxEntry := { frame := f, parkedUntil := none, withdrawn := false, refresh := false }

/-- The line in an attempt with this frame. -/
def sending (f : Frame) (s : State) : State :=
  { s with link := { s.link with engine := .sending, queue := [ready f], attempt := some f } }

/-- An entry body: port 4 from 22:00 for three hours at 9410 kHz. -/
def body : EntryBody :=
  { startMin := 1320, duration := 180, freq := 9410, power := 2500, cls := 2, ports := [4, 5], programme := 1 }

/-- A PRESENCE with nothing to state. -/
def blankPresence : PresenceBody :=
  { rollCall := false, restarted := false, configFault := false, reason := 0, signature := emptySignature,
    held := 255, release := stampNone, maint := [], suspects := [] }

/-- The Saturday entry of slot 7 runs from 12:10 for an hour on port 9 or 4. -/
def saturday : State :=
  let e : BankEntry := { days := 0x20, marks := [], body := { body with startMin := 730, duration := 60, ports := [9, 4] } }
  { idle with store := { idle.store with bank0 := (Table.fill 96 (none : BankSlot)).put 7 (some e) } }

/-- A state under a lockout. -/
def locked (s : State) : State :=
  { s with prot := { s.prot with lockout := some { cause := .conflict, port := none, stamp := 830433500 } } }

/-- Line 0 latched on a bay whose lines have the given configuration. -/
def latched (c : LineConfig) (l : Filtered) (s : State) : State :=
  let x : FaultLine := { lastPin := some true, filtered := l, latched := true, waitInactive := false, count := 4 }
  { s with
    start := { s.start with params := { s.start.params with lines := s.start.params.lines.put 0 c } },
    lines := { s.lines with line := s.lines.line.put 0 x } }

/-- A line configuration active high, by level, with the report. -/
def lineWith (mute hold lockout : Bool) (m : ClearMode) : LineConfig :=
  { polarity := .activeHigh, detect := .level, mute := mute, holdMotion := hold, lockout := lockout,
    report := true, clearMode := m }

/-- The manual settings of a bay joined to port 8 and tuned to 9410 kHz. -/
def settings : Manual :=
  { flag := true, port := some 8, cls := 2, freq := some 9410, power := some 2000, programme := 4, rfOn := true,
    tuned := some 9410 }

/-- The manual assignment of those settings. -/
def manualCurrent : Current :=
  { current with source := .manual, segEnd := none, release := none }

/-! ## Ill-formed commands -/

theorem test_wf_refuses_operands :
    ([.setTime 65536 0, .setTime 0 4294967296, .writeEntry 65536 1 body,
      .writeEntry 0 1 { body with startMin := 65536 }, .writeEntry 0 1 { body with duration := 65536 },
      .writeEntry 0 1 { body with freq := 65536 }, .writeEntry 0 1 { body with power := 65536 },
      .writeEntry 0 1 { body with cls := 256 }, .writeEntry 0 1 { body with ports := [256] },
      .writeEntry 0 1 { body with ports := [] }, .writeEntry 0 1 { body with ports := [1, 2, 3, 4, 5] },
      .writeEntry 0 1 { body with programme := 256 }, .readEntry (.active 65536), .readEntry (.pending 65536),
      .readEntry (.override 256), .eraseEntry (.slot 65536), .commitBank (.stamp 4294967296),
      .putOverride 65536 body, .putOverride 0 { body with ports := [] }, .dropOverride 256, .maintHold 256,
      .maintRelease 256, .forceRelease 256, .clearSuspect 256, .clearFaultLine 65536, .clearDefect 256,
      .manualPort 256 1, .manualPort 1 256, .manualTune 65536, .manualPower 65536, .setLamp 256 0 0 0,
      .setLamp 0 256 0 0, .setLamp 0 0 256 0, .setLamp 0 0 0 256, .nvmWrite 65536 [1],
      .nvmWrite 0 (List.replicate 256 1), .nvmRead 65536 1, .nvmRead 0 256, .unknownCommand 256 [],
      .objectionWindowExpiry 32] : List Instr).all (fun i => !i.wellFormed) = true := by decide

theorem test_wf_refuses_frames :
    ([.intentReceived 16 0 0 0, .intentReceived 0 32 0 0, .intentReceived 0 0 4 0,
      .intentReceived 0 0 0 4294967296, .objectReceived 16 0 0 0 0, .objectReceived 0 32 0 0 0,
      .objectReceived 0 0 32 0 0, .objectReceived 0 0 0 2 0, .objectReceived 0 0 0 0 4294967296,
      .holdReceived 16 0 0 0, .holdReceived 0 32 0 0, .holdReceived 0 0 4 0, .holdReceived 0 0 0 4294967296,
      .releaseReceived 16 0 0, .releaseReceived 0 32 0, .releaseReceived 0 0 16, .suspectReceived 16 0 0,
      .suspectReceived 0 32 0, .suspectReceived 0 0 3, .clearReceived 16 0, .clearReceived 0 32,
      .presenceReceived 16 blankPresence, .presenceReceived 0 { blankPresence with reason := 4 },
      .presenceReceived 0 { blankPresence with signature := 65536 },
      .presenceReceived 0 { blankPresence with held := 32 },
      .presenceReceived 0 { blankPresence with release := 4294967296 },
      .presenceReceived 0 { blankPresence with maint := [1, 2, 3, 4, 5] },
      .presenceReceived 0 { blankPresence with maint := [32] },
      .presenceReceived 0 { blankPresence with suspects := [(32, 0)] },
      .presenceReceived 0 { blankPresence with suspects := [(1, 3)] }] : List Instr).all
      (fun i => !i.wellFormed) = true := by decide

/-! ## The bytes of transactions (R181) and of frames (section 4.2) -/

/-- SET_TIME(9611, 43 200): number 1, the day in two bytes, the second of day in four. -/
theorem test_bytes_setTime :
    readTransaction [1, 0x25, 0x8B, 0, 0, 0xA8, 0xC0] = .setTime 9611 43200 := by decide

/-- WRITE_ENTRY of the second slot of section 2.8: Sunday, 23:00, 120 min, 15 120 kHz, port 9. -/
theorem test_bytes_writeEntry :
    readTransaction [3, 0, 1, 0x40, 0x05, 0x64, 0, 120, 0x3B, 0x10, 0x09, 0xC4, 2, 1, 9, 0] =
      .writeEntry 1 0x40 { startMin := 1380, duration := 120, freq := 15120, power := 2500, cls := 2,
                           ports := [9], programme := 0 } := by decide

/-- One transaction of each other family, written out from R181 and the numbers of section 11.2. -/
theorem test_bytes_families :
    readTransaction [7, 0, 0x31, 0x5F, 0x1C, 0x80] = .commitBank (.stamp 828316800) ∧
    readTransaction [7, 1] = .commitBank .now ∧ readTransaction [4, 2, 3] = .readEntry (.override 3) ∧
    readTransaction [11, 3] = .dropOverride 3 ∧ readTransaction [13] = .readMap ∧
    readTransaction [16, 22] = .maintHold 22 ∧ readTransaction [20] = .clearLockout ∧
    readTransaction [21, 0, 3] = .clearFaultLine 3 ∧ readTransaction [24, 30, 3] = .manualPort 30 3 ∧
    readTransaction [25, 0x24, 0xC2] = .manualTune 9410 ∧ readTransaction [26, 0x01, 0xF4] = .manualPower 500 ∧
    readTransaction [27, 0] = .manualRfOn ∧ readTransaction [27, 1] = .manualRfOff ∧
    readTransaction [28, 1] = .manualExitAtNext ∧ readTransaction [31, 0x0F] = .clearFlags 0x0F ∧
    readTransaction [33, 0, 9, 2, 1] = .setLamp 0 9 2 1 ∧ readTransaction [34] = .restart ∧
    readTransaction [35, 0x0F, 0xFF, 1, 0xAA] = .nvmWrite 4095 [0xAA] ∧
    readTransaction [36, 0, 0, 16] = .nvmRead 0 16 := by decide

theorem test_bytes_unknown :
    readTransaction [37] = .unknownCommand 37 [] ∧ readTransaction [2, 0] = .unknownCommand 2 [0] ∧
    readTransaction [7, 9] = .unknownCommand 7 [9] ∧ readTransaction [] = .transactionCutShort := by decide

/-- R181: SET_TIME after its day's first byte, COMMIT_BANK before its selector and within its stamp, WRITE_ENTRY before
its port count and within its port list, and NVM_WRITE within its data have ended before their last byte. -/
theorem test_bytes_cut_short :
    ([[1, 0x25], [7], [7, 0, 0x31], [3, 0, 1], [3, 0, 1, 0x40, 0x05, 0x64, 0, 120, 0x3B, 0x10, 0x09, 0xC4, 2, 1, 9],
      [35, 0, 0, 2, 0xAA]] : List (List Byte)).all (fun bs => readTransaction bs = .transactionCutShort) = true ∧
    readTransaction [3, 0, 1, 0x40, 0x05, 0x64, 0, 120, 0x3B, 0x10, 0x09, 0xC4, 2, 5] =
      .unknownCommand 3 [0, 1, 0x40, 0x05, 0x64, 0, 120, 0x3B, 0x10, 0x09, 0xC4, 2, 5] := by decide

/-- The header of bay 5's INTENT in section 4.9 is 0x35 and its length byte 6. -/
theorem test_bytes_intent :
    (frameBytes 5 (.intent 8 2 830433700)).take 8 = [0x35, 6, 8, 2, 0x31, 0x7F, 0x69, 0xA4] ∧
    (frameBytes 5 (.intent 8 2 830433700)).length = 10 ∧
    receive (frameBytes 5 (.intent 8 2 830433700)) = .sound 5 (.intent 8 2 830433700) := by decide

/-- R62: the check of the nine bytes "123456789" by this generator and preset is 0x29B1. -/
theorem test_check_word : crc [0x31, 0x32, 0x33, 0x34, 0x35, 0x36, 0x37, 0x38, 0x39] = 0x29B1#16 := by decide

/-- R187: the signature of an empty antenna table. -/
theorem test_empty_signature : (crc (List.replicate 224 0)).toNat = emptySignature := by decide +kernel

/-- Section 4.9: of the headers 0x22, 0x35 and 0x69 the HOLD of bay 2 goes on, and then 0x35 against 0x69. -/
theorem test_contention : contend [0x22, 0x35, 0x69] = [0x22] ∧ contend [0x35, 0x69] = [0x35] := by decide

/-- Section 4.9: 102 bit times for a HOLD or an INTENT, 152 for a PRESENCE with an 11-byte body. -/
theorem test_frame_lengths : (frameBits 2 (.hold 3 1 0)).length = 102 ∧
    (frameBits 9 (.presence blankPresence)).length = 152 := by decide

/-! ## Worked figures of the spec -/

/-- Section 8.11, row by row: S, F and the candidate limit for T = 2500; and Pf at 3000. -/
theorem test_reflection_table :
    ([420, 600, 660, 750, 1000, 1010].map (fun vr =>
      let x := sampleOf Params.builtIn 3000 vr
      (x.rho, x.s, x.f, candidate 2500 x.f))) =
      [(140, 132, 1000, 2500), (200, 150, 1000, 2500), (220, 156, 880, 2200), (250, 166, 680, 1700),
       (333, 199, 250, 625), (336, 201, 250, 625)] ∧
    (sampleOf Params.builtIn 3000 420).pf = 3218 := by decide

/-- R146: ρ = 998 and ρ = 999 are clamped to 9999, and a code below Vmin is neutral. -/
theorem test_reflection_ends : sOf 998 = 9999 ∧ sOf 999 = 9999 ∧ sOf 0 = 100 ∧
    (sampleOf Params.builtIn 40 1010).s = 100 ∧ (sampleOf Params.builtIn 40 1010).f = 1000 ∧
    (sampleOf Params.builtIn 64 64).rho = 999 := by decide

/-- R160: Pf reaches 1250 at Vf = 1870 and not at 1869. -/
theorem test_proof_power : pfOf Params.builtIn 1870 = 1250 ∧ pfOf Params.builtIn 1869 = 1249 := by decide

/-- R44, section 3.4: 14 700 ms and 14 200 ms with the defaults, both 15 s. -/
theorem test_lead_times : leadMs Params.builtIn .full .full = 14700 ∧
    leadMs Params.builtIn .first .retune = 14200 ∧ leadOf Params.builtIn .first .full = 15 := by decide

/-- Section 1.7: day 9611 is a Saturday, and its noon is stamp 830 433 600. -/
theorem test_calendar : weekdayOf 9611 = 5 ∧ idle.stamp = 830433600 ∧ weekdayOf 9587 = 2 := by decide

/-- The summer bank of section 2.8 with slot 2 at a start minute. -/
def summer (slot2 : Nat) : Bank :=
  let e (days : Byte) (start dur freq : Nat) (ports : List Nat) : BankSlot :=
    some { days := days, marks := [],
           body := { startMin := start, duration := dur, freq := freq, power := 1000, cls := 3, ports := ports,
                     programme := 0 } }
  (((Table.fill 96 (none : BankSlot)).put 0 (e 0x1F 1320 180 9410 [4, 5])).put 1
    (e 0x40 1380 120 15120 [9])).put 2 (e 0x01 slot2 60 21650 [12, 4])

/-- Section 2.8: slots 1 and 2 overlap through the wrap of the week, and meet end to start at minute 60. -/
theorem test_overlap_wraps : firstOverlap (usedSlots (summer 30)) = some (1, 2) ∧
    firstOverlap (usedSlots (summer 60)) = none := by decide

/-- Section 2.9: the overrides A, C and D, and B refused for A. -/
def overrideOf (tag start dur : Nat) : Override :=
  { tag := tag, date := 9590, marks := [], body := { body with startMin := start, duration := dur } }

theorem test_override_stamps :
    (overrideOf 0 600 90).start = 828612000 ∧ (overrideOf 0 600 90).stop = 828617400 ∧
    spansMeet 828615600 828619200 828612000 828617400 = true ∧
    spansMeet 828617400 828621000 828612000 828617400 = false ∧
    (insertOverride (overrideOf 2 240 30) [overrideOf 0 600 90, overrideOf 1 690 60]).map Override.tag =
      [2, 0, 1] ∧
    lowestTag [overrideOf 2 240 30, overrideOf 1 690 60] = 0 := by decide

/-! ## Chapter 1 -/

/-- A second of the calendar passes midnight into the next day (R1). -/
theorem test_internalSecond_midnight :
    gives (exec .internalSecond { idle with time := { idle.time with second := 86399 } })
      (fun t => t.time.day = 9612 ∧ t.time.second = 0 ∧ t.time.elapsed = 101 ∧ t.time.osc = 6000) := by decide

/-- An hour's record stands next, so the planner writes nothing; the last instant before the second is 6000. -/
theorem witness_InternalSecondCountsOnBothCounts :
    let s : State := { planned id with time := { idle.time with osc := 6000 } }
    idle.time.second < 86400 ∧ s.time.osc = s.time.phaseZero + 1000 ∧ s.plan.next ≠ none ∧
    gives (exec .internalSecond s) (fun t => t.time.lastCounted = some 6000 ∧ t.plan = s.plan ∧
      t.sup = s.sup ∧ t.stamp = 830433601) := by decide

/-- The line at 2000 ms of section 1.7: an edge 1000 ms after the first applies the pending set. -/
def unset : State :=
  { idle with time := { idle.time with
      day := 0, second := 1, quality := .unset, osc := 2000, phaseZero := 1000, lastEdge := some 1000, run := 1,
      silence := some 3500, lastCounted := some 1000, elapsed := 1, pendingSet := some (9611, 43200) } }

theorem test_ppsEdge_applies_the_set :
    gives (exec .ppsEdge unset) (fun t =>
      t.stamp = 830433600 ∧ t.time.quality = .holdover ∧ t.time.run = 2 ∧ t.time.elapsed = 2 ∧
      t.sup.reports = [⟨830433600, .timeSet, 0, 1⟩]) := by decide

/-- The line at 20 400 ms: 200 ms after the last counted second an edge counts; 50 ms after, it does not. -/
theorem test_ppsEdge_counts :
    gives (exec .ppsEdge { idle with time := { idle.time with lastCounted := some 4800 } })
      (fun t => t.stamp = 830433601) ∧
    gives (exec .ppsEdge { idle with time := { idle.time with lastCounted := some 4950 } })
      (fun t => t.stamp = 830433600) := by decide

/-- The bounds: 100 ms after a counted second none is counted and 101 ms after one is; an edge 950 to 1050 ms after
the last is well spaced. -/
theorem witness_PpsEdgeCountsOrAppliesThePendingSet :
    let counted (at' : Nat) : State := { idle with time := { idle.time with lastCounted := some at' } }
    let edge (at' : Nat) : State := { idle with time := { idle.time with
      quality := .holdover, lastEdge := some at', run := 2 } }
    let runs (at' n : Nat) := gives (exec .ppsEdge (edge at')) (fun t => t.time.run = n)
    unset.time.second < 86400 ∧ unset.time.pendingSet = some (9611, 43200) ∧ idle.time.pendingSet = none ∧
    gives (exec .ppsEdge (counted 4900)) (fun t => t.stamp = 830433600 ∧ t.phase = 0) ∧
    gives (exec .ppsEdge (counted 4899)) (fun t => t.stamp = 830433601) ∧
    runs 4051 1 ∧ runs 4050 3 ∧ runs 3950 3 ∧ runs 3949 1 ∧
    gives (exec .ppsEdge (edge 4050)) (fun t => t.time.quality = .locked) := by decide

theorem witness_SetTimeWaitsForTheEdgeOrAppliesAtOnce :
    gives (exec (.setTime 9611 86400) idle) (fun t => result t = some .badArgument) ∧
    gives (exec (.setTime 49710 23295) idle) (fun t => result t = some .badArgument) ∧
    gives (exec (.setTime 49710 23294) idle) (fun t => result t = some .done ∧ t.stamp = 4294967294) ∧
    gives (exec (.setTime 9611 43212) unset)
      (fun t => t.time.pendingSet = some (9611, 43212) ∧ t.stamp = 1) := by decide

/-- The assignment on the air runs from 11:50:00 to 13:01:40: it is kept at both ends of its span, and in flight
before it; at its end it ends. The segment from 12:10 to 13:10 is skipped by a jump to its end and not by one into
it. -/
theorem witness_SetTimeKeepsEndsOrSkips :
    let kept (t : State) := decide (t.seq.state = .onAir ∧ (t.seq.current.any (fun c => c.port = some 8)))
    air.time.silence = none ∧ air.time.quality = .locked ∧ air.store.overrides = [] ∧ air.plan.next = none ∧
    gives (exec (.setTime 9611 42600) air) kept ∧ gives (exec (.setTime 9611 46899) air) kept ∧
    gives (exec (.setTime 9611 42599) (off .muting)) (fun t => t.seq.current.isSome ∧ t.seq.state = .muting) ∧
    gives (exec (.setTime 9611 46900) air) (fun t => t.seq.state = .muting ∧ t.seq.current = none ∧
      t.sup.reports = [⟨830437300, .timeSet, 0, 830433600⟩, ⟨830437300, .entryEnded, 3, 40⟩]) ∧
    gives (exec (.setTime 9611 42599) air) (fun t => t.seq.state = .muting ∧ t.seq.muteDemand = 2000) ∧
    appliesAt air.store current.segStart = none ∧
    saturday.canPlan = true ∧ saturday.plan.floor < saturday.stamp + 86400 ∧ overridesApart saturday ∧
    serviceChecked saturday ∧ slotsTimed saturday ∧
    (skippedSegments saturday.store 830433600 830437800 2000 830433600).map Segment.start = [830434200] ∧
    gives (exec (.setTime 9611 47400) saturday) (fun t =>
      t.sup.reports = [⟨830437800, .timeSet, 0, 830433600⟩, ⟨830437800, .entryMissed, 7, 830434200⟩]) ∧
    gives (exec (.setTime 9611 45000) saturday) (fun t =>
      t.sup.reports = [⟨830435400, .timeSet, 0, 830433600⟩]) := by
  unfold overridesApart serviceChecked slotsTimed
  decide +kernel

/-- The line at 12 500 ms of section 1.7. -/
theorem witness_SilenceEndsThePpsAndLosesThePendingSet :
    let s : State := { idle with time := { idle.time with silence := some 7500 } }
    s.time.silence = some 7500 ∧ s.sup.reports.length ≤ 30 ∧
    gives (exec .silenceTimerExpiry s) (fun t => t.time.quality = .holdover ∧ t.time.osc = 7500 ∧
      t.sup.reports.map Report.kind = [.timeHoldover]) := by decide

theorem witness_ViewsAndReadsChangeNothingButThePort : idle.sup.nvmPending = none ∧
    gives (exec (.readEntry (.active 96)) idle) (fun t => result t = some .badArgument) ∧
    gives (exec (.readEntry (.active 95)) idle) (fun t => t.sup.response.data = [0]) ∧
    gives (exec (.readEntry (.override 2)) idle) (fun t => result t = some .notFound) ∧
    gives (exec (.readEntry (.override 2))
        { idle with store := { idle.store with overrides := [overrideOf 2 240 30] } })
      (fun t => result t = some .done) := by decide

/-! ## Chapter 2 -/

/-- A part whose pending bank is in a state. -/
def pendingIs (p : PendingState) (b : Bank) : State :=
  { idle with store := { idle.store with
      bank1 := b, pendingState := p, switchStamp := if p = .armed then some 830433700 else none,
      commitTarget := if p = .checking then some (.stamp 830433700) else none } }

theorem witness_WriteEntryChangesOneSlotOfThePendingBank :
    gives (exec (.writeEntry 95 0x7F body) idle)
      (fun t => result t = some .done ∧ (t.store.pendingBank.get 95).isSome ∧ (t.store.pendingBank.get 94).isNone) ∧
    gives (exec (.writeEntry 96 0x7F body) idle) (fun t => result t = some .badArgument) ∧
    gives (exec (.writeEntry 0 0 body) idle) (fun t => result t = some .badArgument) ∧
    gives (exec (.writeEntry 0 1 { body with ports := [4, 4] }) idle) (fun t => result t = some .badArgument) ∧
    gives (exec (.writeEntry 0 1 body) (pendingIs .checking (summer 30))) (fun t => result t = some .busy) ∧
    gives (exec (.writeEntry 0 1 body) (pendingIs .armed (summer 60))) (fun t => result t = some .armed) := by
  decide

theorem witness_EditsCommitAndDisarmActOnThePendingBank :
    gives (exec (.eraseEntry (.slot 96)) idle) (fun t => result t = some .badArgument) ∧
    gives (exec (.eraseEntry (.slot 1)) (pendingIs .editable (summer 30)))
      (fun t => usedSlots t.store.pendingBank = usedSlots ((summer 30).put 1 none)) ∧
    gives (exec .copyActive (pendingIs .editable (summer 30))) (fun t => usedSlots t.store.pendingBank = []) ∧
    gives (exec .disarmBank (pendingIs .armed (summer 60)))
      (fun t => t.store.pendingState = .editable ∧ t.store.switchStamp = none) ∧
    gives (exec .disarmBank idle) (fun t => result t = some .wrongState) ∧
    gives (exec (.commitBank (.stamp 4294967295)) idle) (fun t => result t = some .badArgument) ∧
    gives (exec (.commitBank .now) idle) (fun t => t.store.pendingState = .checking) ∧
    gives (exec (.commitBank .now) (pendingIs .armed (summer 60))) (fun t => result t = some .armed) ∧
    gives (exec .copyActive (pendingIs .checking (summer 60))) (fun t => result t = some .busy) := by decide

theorem witness_OverlapTestNamesTheLowestPair : ((List.range 96).all (fun i => ((summer 30).get i).all (fun e =>
    decide (e.body.startMin ≤ 1439 ∧ 1 ≤ e.body.duration ∧ e.body.duration ≤ 1440)))) = true := by decide

/-- Section 2.8: the first check names slots 1 and 2, the second arms, and NOW switches at once. -/
theorem witness_CheckEndHandsBackArmsOrSwitches :
    checkOutcome hall (summer 30) = .overlap 1 2 ∧ checkOutcome hall (summer 60) = .accepted ∧
    gives (exec .bankCheckEnd (pendingIs .checking (summer 30))) (fun t =>
      t.store.lastCheck = .overlap 1 2 ∧ t.store.pendingState = .editable ∧
      t.sup.reports = [⟨830433600, .bankCheckDone, 1, 65538⟩]) ∧
    gives (exec .bankCheckEnd (pendingIs .checking (summer 60))) (fun t =>
      t.store.pendingState = .armed ∧ t.store.switchStamp = some 830433700 ∧
      t.sup.reports = [⟨830433600, .bankCheckDone, 0, 0⟩]) ∧
    gives (exec .bankCheckEnd { pendingIs .checking (summer 60) with store :=
        { (pendingIs .checking (summer 60)).store with commitTarget := some .now } })
      (fun t => t.store.oneActive ∧ t.store.lastCheck = .none ∧
        ((t.store.activeBank.get 0).any (fun e => e.marks = [.eligible, .eligible])) ∧
        t.sup.reports = [⟨830433600, .bankCheckDone, 0, 0⟩, ⟨830433600, .bankSwitched, 1, 830433600⟩]) := by
  decide +kernel

theorem witness_SwitchSwapsTheRoles :
    let s := pendingIs .armed (summer 60)
    let late : State := { s with time := { s.time with second := 43300 } }
    s.store.switchStamp = some 830433700 ∧ s.stamp < 830433700 ∧ 830433700 ≤ late.stamp ∧
    gives (exec .switchRoles late) (fun t => t.store.oneActive ∧ usedSlots t.store.pendingBank = [] ∧
      t.sup.reports.head? = some ⟨830433700, .bankSwitched, 1, 830433700⟩) := by
  decide +kernel

theorem witness_PutOverrideIsTestedInOrderAndInserted :
    let s : State := { idle with store := { idle.store with overrides := [{ overrideOf 0 780 60 with date := 9611 }] } }
    let b : EntryBody := { body with startMin := 840, duration := 60 }
    gives (exec (.putOverride 9611 { b with power := 0 }) s) (fun t => result t = some .badArgument) ∧
    gives (exec (.putOverride 9611 b) { s with time := { s.time with quality := .unset } })
      (fun t => result t = some .wrongState) ∧
    gives (exec (.putOverride 9610 b) s) (fun t => result t = some .badArgument) ∧
    gives (exec (.putOverride 9611 b) { s with store := { s.store with
        overrides := (List.range 16).map (fun i => overrideOf i (i * 10) 10) } })
      (fun t => result t = some .full) ∧
    gives (exec (.putOverride 9611 { b with startMin := 839 }) s) (fun t => result t = some .overlap) ∧
    gives (exec (.putOverride 9611 b) s)
      (fun t => t.store.overrides.map Override.tag = [0, 1] ∧ t.sup.response.data = [1]) := by decide +kernel

theorem witness_OverridesLeaveAtTheirEndOrWhenDropped :
    let s : State := { idle with store := { idle.store with
      overrides := [overrideOf 2 240 30, { overrideOf 0 720 60 with date := 9611 }] } }
    gives (exec .overrideExpiry s) (fun t => t.store.overrides.map Override.tag = [0]) ∧
    gives (exec (.dropOverride 2) s) (fun t => t.store.overrides.map Override.tag = [0]) ∧
    gives (exec (.dropOverride 15) s) (fun t => result t = some .notFound) ∧
    gives (exec (.dropOverride 16) s) (fun t => result t = some .badArgument) := by decide +kernel

/-- An override that runs, dropped: a current assignment in its lead ends, and a held-over one does not; the
assignment of an override whose span has not begun ends too. The floor becomes the present stamp. -/
theorem witness_ADroppedOverrideEndsTheCurrentAssignment :
    let late : Current := { current with segStart := 830433700, onAirStamp := none, onAirCount := none }
    let s (o : Override) (c : Current) : State := { idle with
      store := { idle.store with overrides := [o] }, seq := { idle.seq with state := .guarding, current := some c } }
    let runs : Override := { overrideOf 2 700 30 with date := 9611 }
    let soon : Override := { overrideOf 2 721 30 with date := 9611 }
    runs.start ≤ idle.stamp ∧ idle.stamp < runs.stop ∧ idle.stamp < soon.start ∧
    (s runs late).store.overrides.find? (fun o => decide (o.tag = 2)) = some runs ∧
    segmentAt idle.store 830433600 = none ∧
    gives (exec (.dropOverride 2) (s runs late)) (fun t => t.seq.current = none ∧ t.seq.state = .guarding ∧
      t.plan = { floor := 830433600, next := none }) ∧
    gives (exec (.dropOverride 2) (s runs { late with heldOver := true })) (fun t => t.seq.current.isSome) ∧
    gives (exec (.dropOverride 2) (s soon { late with source := .entry 98 9611 })) (fun t =>
      t.seq.current = none) := by decide +kernel

/-- R35: an override that contains the instant applies before a bank's occurrence; without one the bank's does,
from its start to its end. -/
theorem witness_TheEntryInForceApplies :
    let st : ScheduleStore := { ScheduleStore.initial with bank0 := summer 60 }
    let o := overrideOf 3 1320 60
    (appliesAt st (9587 * 86400 + 1320 * 60)).map Occurrence.number = some 0 ∧
    (appliesAt st (9587 * 86400 + 1500 * 60)).isNone ∧
    (appliesAt { st with overrides := [o] } o.start).map Occurrence.number = some 99 ∧
    (appliesAt { st with overrides := [o] } o.stop).map Occurrence.number = none := by decide

/-- R39, R41: the occurrence from 12:10 to 13:10 with an override from 12:30 to 12:45 and the same bank armed for
12:56:40 gives four segments; the look-ahead takes in a start before its limit alone. -/
theorem witness_SegmentsAreMaximalIntervals :
    let cut : Override := { overrideOf 2 750 15 with date := 9611 }
    let s : State := { saturday with store := { saturday.store with
      bank1 := saturday.store.bank0, pendingState := .armed, switchStamp := some 830437000, overrides := [cut] } }
    let span (t : Nat) := (segmentAt s.store t).map (fun g => (g.occ.bank, g.start, g.stop))
    overridesApart s ∧ serviceChecked s ∧ slotsTimed s ∧ span 830434199 = none ∧
    span 830434200 = some (0, 830434200, 830435400) ∧ span 830435400 = some (2, 830435400, 830436300) ∧
    span 830436300 = some (0, 830436300, 830437000) ∧ span 830437000 = some (1, 830437000, 830437800) ∧
    span 830437800 = none ∧ nextSegment s.store 830433600 830434200 = none ∧
    (nextSegment s.store 830433600 830434201).map Segment.stop = some 830435400 := by
  unfold overridesApart serviceChecked slotsTimed
  decide +kernel

/-- A bank with the same slot armed for the segment's start: a current assignment in its lead is not cut (R54), and a
record is kept as of that bank (R52). It is cut by a bank without the slot (entry 94) and by a stamp inside (R39). -/
theorem test_a_switch_before_the_segment_does_not_cut_its_source :
    let lead : Current := { current with
      source := .entry 7 9611, bank := 0, occEnd := 830437800, segStart := 830434200, segEnd := some 830437800,
      onAirStamp := none, onAirCount := none }
    let checked (b : Bank) (w : Nat) (s : State) : State := { s with store := { s.store with
      bank1 := b, pendingState := .checking, commitTarget := some (.stamp w) } }
    let way (b : Bank) (w : Nat) : State := checked b w
      { saturday with seq := { saturday.seq with state := .guarding, current := some lead } }
    let same := saturday.store.bank0
    let ends (t : State) := t.seq.current.map (fun c => (c.bank, c.segEnd))
    gives (exec .bankCheckEnd (way same 830434200)) (fun t => ends t = some (1, some 830437800) ∧
      gives (exec .disarmBank t) (fun u => ends u = some (0, some 830437800))) ∧
    gives (exec .bankCheckEnd (way (Table.fill 96 none) 830434000)) (fun t => ends t = some (0, some 830434000)) ∧
    gives (exec .bankCheckEnd (way same 830436000)) (fun t => ends t = some (0, some 830436000)) ∧
    (planNext saturday).plan.next.any (fun a => decide (a.bank = 0 ∧ a.segStart = 830434200)) = true ∧
    gives (exec .bankCheckEnd (checked same 830434200 (planNext saturday))) (fun t =>
      t.plan.next.any (fun a => decide (a.bank = 1 ∧ a.segStart = 830434200))) := by decide +kernel

theorem witness_EveryStepKeepsOverridesApartAndTheServiceBankChecked :
    overridesApart idle ∧ serviceChecked idle ∧ slotsTimed saturday := by
  refine ⟨⟨by decide, by decide⟩, ⟨?_, ?_⟩, ?_⟩
  · decide
  · decide
  · unfold slotsTimed; decide +kernel

/-! ## Chapter 3 -/

theorem witness_RecordsAreTimedByTheirKindAndLead :
    let byHand : State := air.setCurrent (fun c => { c with toAssignment :=
      { c.toAssignment with source := .manual, segEnd := none } })
    let tuned : State := { byHand with manual := { byHand.manual with tuned := some 9410 } }
    let between : State := { air with manual := { tuned.manual with atNext := true } }.setCurrent
      (fun c => { c with toAssignment := { c.toAssignment with source := .manual, segEnd := some 1 } })
    let unwound := (off .guarding).setSeq (fun q => { q with current := none })
    air.seq.current = some current ∧ current.source ≠ .manual ∧ current.segEnd = some 830437300 ∧
    record.segStart ≤ 830437300 + leadOf hall .continuation .continuation ∧
    (air.timed { record with segStart := 830437300 }).kind = .continuation ∧
    (air.timed { record with segStart := 830440000, chosen := some 10 }).kind = .first ∧
    (air.timed { record with segStart := 830440000, chosen := some 10 }).deferred = true ∧
    (idle.timed { record with deferred := true }).deferred = false ∧
    (unwound.timed { record with deferred := true }).deferred = true ∧
    (byHand.timed record).kind = .retune ∧ (byHand.timed record).chained = true ∧
    (tuned.timed record).kind = .continuation ∧ (between.timed record).chained = true ∧
    (idle.timed record).lead = 15 ∧ (idle.timed record).changeoverStart = 830433685 ∧
    (idle.timed record).claimTime = 830433655 := by decide +kernel

/-- R46: a CONTINUATION of length exactly min air is not missed, and one a second shorter is. -/
theorem test_missed_segment :
    air.missed { record with changeoverStart := 1000, lead := 0, segEnd := some 1060 } = false ∧
    air.missed { record with changeoverStart := 1000, lead := 0, segEnd := some 1059 } = true := by decide

/-- The same Saturday with ports 9 and 4 held by bay 7, port 9 until the stamp r. -/
def blocked (r : Nat) : State :=
  (saturday.setPort 9 (fun x => { x with mark := .held 7 2 (some r) })).setPort 4
    (fun x => { x with mark := .held 7 2 none })

theorem witness_TheNextSegmentBecomesTheNextRecord :
    gives (exec .internalSecond saturday) (fun t => t.plan.next.isSome ∧ t.stamp = 830433601) ∧
    saturday.plan.next = none ∧ saturday.canPlan = true ∧ saturday.currentSettled = true ∧
    (nextSegment saturday.store saturday.stamp (saturday.stamp + 86400)).any (fun g =>
      decide (g.start = 830434200 ∧ g.stop = 830437800) &&
      !saturday.missed (saturday.timed (saturday.choose (g.record saturday.cfg)))) = true ∧
    (planNext saturday).plan.next.any (fun a => decide (a.chosen = some 9 ∧ a.segStart = 830434200)) = true ∧
    (planNext (blocked 830434320)).plan.next.any (fun a => decide (a.chosen = none ∧ a.waitPort = some 9)) = true ∧
    (planNext (blocked 830434321)).plan.next.any (fun a => decide (a.chosen = none ∧ a.waitPort = none)) = true := by
  decide +kernel

/-- R41: a floor past the look-ahead finds its segment on the second that its start comes within the 24 h. -/
theorem test_the_look_ahead_bounds_the_segment_of_the_floor :
    nextSegment saturday.store 830434200 830434200 = none ∧
    (nextSegment saturday.store 830434200 830434201).any (fun g => decide (g.start = 830434200)) = true := by
  decide +kernel

/-- R49: NO_PORT is filed once for a segment, also where the kept port of its record goes meanwhile. -/
theorem test_a_loosened_record_keeps_its_no_port :
    (loosenNext (planned (fun a => { a with
      keepsPort := true, claim := { a.claim with noPortFiled := true } }))).plan.next.any
      (fun a => !a.keepsPort && a.claim.noPortFiled) = true := by decide

/-- R49: the wait port's RELEASE restarts the scan; at the claim time a port that is not blocked is no wait port. -/
theorem test_a_freed_wait_port_is_chosen :
    gives (exec (.releaseReceived 7 9 7) (planNext (blocked 830434320))) (fun t => t.plan.next.any (fun a =>
      decide (a.chosen = some 9 ∧ a.waitPort = none ∧ a.claim = Claim.fresh))) ∧
    gives (exec .claimTime (planned (fun a => { a with claimTime := 0, chosen := none }))) (fun t =>
      t.plan.next.any (fun a => decide (a.claim.state = .noPort ∧ a.claim.retryAt = some 115))) := by decide +kernel

/-- R93: the class of a record that has won a port held already. -/
theorem test_a_won_port_is_restated_with_the_records_class :
    (presenceEcho blankPresence (joined (planned (fun a =>
      { a with cls := 1, claim := { Claim.fresh with begun := true, state := .won } })))).link.queue =
      [{ ready (.hold 8 1 830437300) with refresh := true }] := by decide +kernel

theorem witness_ClaimTimeQueuesTheIntent :
    let s := planned (fun a => { a with claimTime := 830433600 })
    let kept := joined (planned (fun a => { a with claimTime := 830433600, cls := 3 }))
    (planned id).claimDue = false ∧ s.claimDue = true ∧ s.ownHeld 8 = false ∧ s.mayOffer = true ∧
    gives (exec .claimTime s) (fun t => t.link.queue = [ready (.intent 8 2 830433700)]) ∧
    kept.claimDue = true ∧ kept.ownHeld 8 = true ∧
    gives (exec .claimTime kept) (fun t => t.link.queue =
      [{ ready (.hold 8 2 830437300) with refresh := true, asked := true }]) := by
  decide +kernel

theorem witness_ScansAreRepeated :
    let s (st : ClaimState) (at' : Nat) := planned (fun a => { a with
      ports := [(8, true), (10, false)],
      claim := { Claim.fresh with begun := true, state := st, retryAt := some at', rescanAt := some at' } })
    let waits (st : ClaimState) : State := { idle with seq := { idle.seq with
      state := .reposition, current := some { current with
        ports := [(8, true), (10, false)], port := none, onAirStamp := none, onAirCount := none,
        claim := { Claim.fresh with begun := true, state := st, retryAt := some 100, rescanAt := some 100 } } } }
    (s .noPort 101).retriesDue = [] ∧ (s .unclaimed 101).rescansDue = [] ∧
    (s .noPort 100).reached (some 100) = true ∧
    air.seq.current = some current ∧ (waits .noPort).row.motion = .still ∧ (waits .noPort).closedPorts = [] ∧
    gives (exec .noPortRetry (waits .noPort)) (fun t => t.seq.current.any (fun c =>
      c.chosen = some 8 ∧ c.claim.state = .queued) ∧ t.link.queue = [ready (.intent 8 2 830433000)]) ∧
    gives (exec .droppedRescan (waits .unclaimed)) (fun t => t.seq.rowSub = .waitPort ∧
      t.link.queue = [ready (.intent 10 2 830433000)]) ∧
    gives (exec .noPortRetry (s .noPort 100)) (fun t => t.plan.next.bind Assignment.chosen = some 8) ∧
    gives (exec .droppedRescan (s .unclaimed 100)) (fun t => t.plan.next.bind Assignment.chosen = some 10) := by
  decide +kernel

theorem witness_UnsettledRecordsAreGivenUp :
    let s := planned (fun a => { a with giveUp := 830433600 })
    (planned id).stamp < record.giveUp ∧ record.claim.state ≠ .won ∧
    nextSegment s.store (max 830437300 s.stamp) (s.stamp + 86400) = none ∧
    gives (exec .giveUpPoint s) (fun t => t.plan = { floor := 830437300, next := none } ∧
      t.sup.reports = [⟨830433600, .entryMissed, 3, 830433700⟩]) := by decide +kernel

/-- R51: given up in REPOSITION and in LOCKED; at its give-up point but for one second it is not, nor when WON. -/
theorem witness_TheCurrentAssignmentIsGivenUp :
    let waits (q : SeqState) (w : ClaimState) (g : Nat) : State := { idle with
      plan := { floor := 830437300, next := none },
      link := { idle.link with queue := [ready (.intent 8 2 830433000)] }
      seq := { idle.seq with state := q, current := some { current with
        port := none, onAirStamp := none, onAirCount := none, giveUp := g,
        claim := { Claim.fresh with begun := true, state := w } } } }
    let s := waits .reposition .queued 830433600
    s.row.motion = .still ∧ s.row.waiting = none ∧ s.row.recoveryOf = none ∧ s.closedPorts = [] ∧
    nextSegment s.store 830437300 (s.stamp + 86400) = none ∧
    gives (exec .giveUpPoint s) (fun t => t.seq.current = none ∧ t.seq.state = .idle ∧ t.link.queue = [] ∧
      t.plan = { floor := 830437300, next := none } ∧
      t.sup.reports = [⟨830433600, .entryMissed, 3, 830433000⟩]) ∧
    gives (exec .giveUpPoint (waits .locked .noPort 830433600)) (fun t =>
      t.seq.current = none ∧ t.seq.state = .locked) ∧
    gives (exec .giveUpPoint (waits .reposition .queued 830433601)) (fun t => t.seq.current.isSome) ∧
    gives (exec .giveUpPoint (waits .reposition .won 830433600)) (fun t => t.seq.current.isSome) := by
  decide +kernel

/-! ## Chapter 4 -/

theorem witness_ReceiversTakeExactlyTheSoundFrames :
    receive [0x50, 1, 8, 0, 0] = .tailGuard ∧ receive [0x50, 2, 8, 0, 0] = .breakOff ∧
    receive [0x70, 1, 8, 0, 0] = .breakOff ∧ receive [] = .breakOff ∧
    deliverable 5 (.clear 8) = true ∧
    receiveBits ((frameBytes 5 (.clear 8)).flatMap byteBits ++ [true, false]) = .sound 5 (.clear 8) ∧
    byteBits 0x35 = [false, false, false, true, true, false, true, false, true, true] ∧
    readByte (byteBits 0x35 ++ [false]) = some (0x35, [false]) ∧ readByte [true] = none ∧
    readByte (false :: List.replicate 8 true ++ [false]) = none := by decide

theorem witness_OffersJoinTheQueueByTheirKind :
    let full (f : Frame) : Link := { idle.link with queue := ready f :: List.replicate 7 (ready (.clear 1)) }
    ((full (.clear 2)).offer (.hold 8 2 0) false).2 = false ∧
    ((full (.presence blankPresence)).offer (.hold 8 2 0) false).1.queue.length = 8 ∧
    ((full (.presence blankPresence)).offer (.hold 8 2 0) false).2 = true ∧
    ((full (.clear 2)).offer (.presence blankPresence) false).2 = true ∧
    (idle.link.offer (.presence blankPresence) false).1.queue.length = 1 := by decide

theorem witness_SpoilsCountUpToTheDropOfTheOldestEntry :
    let s (n : Nat) (w : Bool) : State :=
      let x := sending (.hold 8 2 0) idle
      { x with link := { x.link with resend := n, queue := [{ ready (.hold 8 2 0) with withdrawn := w }] } }
    gives (exec (.attemptSpoiled true) (s 6 false)) (fun t => t.link.resend = 7 ∧ t.link.drops = 0) ∧
    gives (exec (.attemptSpoiled true) (s 7 false)) (fun t =>
      t.link.queue = [{ ready (.hold 8 2 0) with parkedUntil := some 101 }] ∧ t.link.busFault ∧
      t.sup.reports = [⟨830433600, .busFault, 8, 2 * 65536 + 1⟩]) ∧
    gives (exec (.attemptSpoiled false) (s 7 true))
      (fun t => t.link.queue = [] ∧ t.link.drops = 0 ∧ t.link.engine = .spoiling) ∧
    gives (exec .contentionWithdrawal (s 3 false)) (fun t => t.link.resend = 3 ∧ t.link.engine = .receiving) ∧
    gives (exec .contentionWithdrawal (s 3 true)) (fun t => t.link.queue = []) ∧
    gives (exec .blockedTimerExpiry { idle with link := { idle.link with
        queue := [ready (.clear 1)], blocked := some 5050 } })
      (fun t => t.link.resend = 1 ∧ t.link.blocked = some 5100) := by decide +kernel

theorem witness_TheOldestReadyEntryContendsOnAnIdleLine :
    let q (e : TxEntry) : State := { idle with link := { idle.link with engine := .sync, queue := [e] } }
    let refused (due : Nat) : State :=
      { idle with hall := { idle.hall with refused := [⟨.clear 3, false, due, false⟩] } }
    let bits (l : List Byte) := l.flatMap byteBits
    gives (exec .lineIdle (q (ready (.clear 1)))) (fun t => t.link.attempt = some (.clear 1)) ∧
    gives (exec .lineIdle (q { ready (.clear 1) with parkedUntil := some 101 })) (fun t => t.link.engine = .idle) ∧
    gives (exec .parkedEntryReady (q { ready (.clear 1) with parkedUntil := some 100 }))
      (fun t => t.link.queue = [ready (.clear 1)]) ∧
    gives (exec .refusedFrameReoffer (refused 100)) (fun t => t.link.queue = [ready (.clear 3)]) ∧
    gives (exec .refusedFrameReoffer (refused 101)) (fun t => t.link.queue = []) ∧
    gives (exec (.frameSpoiled (bits [0x50, 2]) false) idle) (fun t => t.link.engine = .spoiling) ∧
    gives (exec (.frameSpoiled [true] true) idle) (fun t => t.link.engine = .spoiling ∧ !t.link.lineIdle) ∧
    gives (exec (.frameSpoiled (bits [0x50, 1, 8, 0, 0]) false) idle) (fun t => t.link.engine = .idle) ∧
    gives (exec (.frameSpoiled (bits (frameBytes 5 (.hold 8 2 830433600))) true) idle)
      (fun t => t.link.engine = .idle ∧ (t.portRec 8).mark = .free) ∧
    gives (exec (.frameSpoiled (bits (frameBytes 5 (.hold 8 2 830433600))) false) idle)
      (fun t => t.link.engine = .idle ∧ (t.portRec 8).mark = .held 5 2 (some 830433600)) ∧
    gives (exec (.frameSpoiled (bits [0x50, 2]) false) { idle with link := { idle.link with engine := .sync } })
      (fun t => t.link.engine = .sync) := by decide +kernel

/-! ## Chapter 5 -/

theorem witness_IntentsAreEnteredByRankAndLapse :
    let foreign : State := idle.setPort 8 (fun r => { r with mark := .intended 6 2 830433700 103 })
    deliverable 7 (.intent 8 2 830433600) = true ∧ idle.isEcho 7 (.intent 8 2 830433600) = false ∧
    gives (exec (.intentReceived 7 8 2 830433600) foreign)
      (fun t => (t.portRec 8).mark = .intended 7 2 830433600 103) ∧
    gives (exec (.intentReceived 7 8 3 830433600) foreign)
      (fun t => (t.portRec 8).mark = .intended 6 2 830433700 103) ∧
    gives (exec (.intentReceived 7 9 3 830433600) (joined idle))
      (fun t => t.link.queue.map TxEntry.frame = [.object 9 8 0 830437300]) ∧
    gives (exec (.intentReceived 7 8 3 830433600) (joined idle))
      (fun t => t.link.queue.map TxEntry.frame = [.object 8 8 0 830437300]) ∧
    gives (exec .intentLapse { foreign with time := { foreign.time with elapsed := 103 } })
      (fun t => (t.portRec 8).mark = .free) := by decide +kernel

theorem witness_HoldsAndReleasesChangeTheMap :
    let foreign : State := idle.setPort 9 (fun r => { r with mark := .intended 6 2 830433700 103 })
    deliverable 7 (.hold 8 2 stampNone) = true ∧ deliverable 7 (.object 9 8 0 0) = true ∧
    deliverable 7 (.release 8 5) = true ∧
    gives (exec (.holdReceived 7 8 2 stampNone) foreign)
      (fun t => (t.portRec 8).mark = .held 7 2 none ∧ (t.portRec 9).mark = .free) ∧
    gives (exec (.objectReceived 7 9 8 1 0) foreign) (fun t => (t.portRec 8).mark = .maint 7 0 (some 0)) ∧
    gives (exec (.releaseReceived 7 8 5) (joined idle))
      (fun t => (t.portRec 8).mark = .held 5 2 (some 830437300) ∧ (t.portRec 8).standing = some .unconfirmed) ∧
    gives (exec (.releaseReceived 6 9 6) foreign) (fun t => (t.portRec 9).mark = .free) := by decide +kernel

theorem witness_SuspectsAndPeersFollowTheirFrames :
    let heard : State := idle.setPeer 7 (fun r => { r with presence := .present, lastFrame := 93 })
    let x : PresenceBody := { blankPresence with
      held := 12, release := 830437300, signature := 1, maint := [20, 31], suspects := [(3, 2)] }
    deliverable 7 (.presence x) = true ∧ idle.isEcho 7 (.presence x) = false ∧
    gives (exec (.suspectReceived 7 8 1) idle) (fun t => (t.portRec 8).suspect = some (7, 1)) ∧
    gives (exec (.clearReceived 7 8) idle) (fun t => (t.portRec 8).suspect = none) ∧
    gives (exec (.presenceReceived 7 x) idle) (fun t => (t.portRec 12).mark = .held 7 3 (some 830437300) ∧
      (t.portRec 20).mark = .maint 7 0 none ∧ (t.portRec 31).mark = .maint 7 0 none ∧
      (t.portRec 3).suspect = some (7, 2) ∧ (t.portRec 4).suspect = none ∧
      (t.hall.peers.get 7).mismatch ∧ t.sup.reports.map Report.kind = [.tableMismatch, .suspectHeard]) ∧
    gives (exec (.presenceReceived 7 x) (idle.setPort 9 (fun r => { r with mark := .held 7 2 none })))
      (fun t => (t.portRec 9).mark = .free) ∧
    gives (exec .peerSilence heard) (fun t => (t.hall.peers.get 7).presence = .silent) ∧
    idle.presenceDue = false ∧
    gives (exec .presenceInterval { idle with time := { idle.time with elapsed := 102 } })
      (fun t => t.link.queue.length = 1 ∧ t.hall.lastPresence = 102) := by decide +kernel

/-- The record in its objection window, and then with its HOLD on the line. -/
def inWindow (w : Option Nat) : State :=
  planned (fun a => { a with claim := { Claim.fresh with
    begun := true, state := .inWindow, window := w, holdOffered := w.isNone } })

theorem witness_AClaimIsWonByItsHoldEcho :
    let h : Frame := .hold 8 2 830437300
    let s := sending h (inWindow none)
    let rival := s.setPort 9 (fun r => { r with mark := .held 7 2 none })
    s.isEcho 5 h = true ∧ deliverable 5 h = true ∧ s.rivalHold 8 = none ∧ rival.rivalHold 8 = some 7 ∧
    let open' := inWindow (some 5250)
    let lost (x : Instr) (cause : Nat) := gives (exec x open') (fun t =>
      t.plan.next.any (fun a => a.ports.head? = some (8, true) ∧ a.claim.state ≠ .won) ∧
      t.sup.reports.contains ⟨830433600, .claimLost, 8, cause * 256 + 7⟩)
    lost (.holdReceived 7 9 2 stampNone) 0 ∧ lost (.intentReceived 7 9 1 4000000000) 1 ∧
    lost (.intentReceived 7 8 2 830433699) 1 ∧ lost (.suspectReceived 7 8 1) 2 ∧
    lost (.objectReceived 7 8 9 0 0) 3 ∧
    gives (exec (.intentReceived 7 8 2 830433700) open') (fun t =>
      t.plan.next.any (fun a => a.claim.state = .inWindow) ∧ t.sup.reports = []) ∧
    gives (exec (.objectionWindowExpiry 8) (inWindow (some 5250))) (fun t =>
      t.time.osc = 5250 ∧ t.link.queue = [ready h]) ∧
    gives (exec (.holdReceived 5 8 2 830437300) s) (fun t => t.plan.next.any (fun a => a.claim.state = .won) ∧
      (t.portRec 8).standing = some .confirmed ∧
      t.sup.reports = [⟨830433600, .claimWon, 8, 2 * 256 + 3⟩]) ∧
    gives (exec (.holdReceived 5 8 2 830437300) rival) (fun t =>
      t.link.queue.any (fun e => e.frame = .release 8 5)) := by decide +kernel

/-- REPOSITION with motion clearance given. -/
def reposition (c : Option Current) (s : State) : State :=
  { s with seq := { s.seq with state := .reposition, clearance := true, current := c } }

/-- R90, R96, R175: WON at the current assignment, at a maintenance hold and at a manual claim. -/
theorem witness_ClaimsAreWonAtEachOwner :
    let sent : Claim := { Claim.fresh with begun := true, state := .inWindow, holdOffered := true }
    let c : Current := { current with port := none, onAirStamp := none, onAirCount := none, claim := sent }
    let mine (q : SeqState) : State := sending (.hold 8 2 830437300)
      { idle with seq := { idle.seq with state := q, current := some c } }
    let goal := sending (.hold 8 2 830437300) (reposition (some c) idle)
    let m : MaintEntry := { port := 31, start := 0, state := .claiming, claim := sent, releasing := false }
    let maint := sending (.hold 31 0 stampNone) { idle with hall := { idle.hall with maint := [m] } }
    let byHand (q : SeqState) : State := sending (.hold 0 1 stampNone) { idle with
      hall := { idle.hall with manualClaim := some ⟨0, 1, 5, sent⟩ }, manual := { Manual.initial with flag := true },
      seq := { idle.seq with state := q } }
    let won (p d : Nat) (t : State) := decide (t.sup.reports = [⟨830433600, .claimWon, p, d⟩])
    (mine .guarding).isEcho 5 (.hold 8 2 830437300) = true ∧ (mine .guarding).rivalHold 8 = none ∧
    maint.isEcho 5 (.hold 31 0 stampNone) = true ∧ (byHand .idle).isEcho 5 (.hold 0 1 stampNone) = true ∧
    deliverable 5 (.hold 31 0 stampNone) = true ∧ deliverable 5 (.hold 0 1 stampNone) = true ∧
    goal.rowFree = true ∧
    gives (exec (.holdReceived 5 8 2 830437300) (mine .guarding)) (fun t => won 8 (2 * 256 + 3) t ∧
      t.seq.state = .guarding ∧ t.seq.current.any (fun d => d.port = some 8 ∧ d.claim.state = .won)) ∧
    gives (exec (.holdReceived 5 8 2 830437300) goal) (fun t => won 8 (2 * 256 + 3) t ∧
      t.row.motion = .closing 8 ∧ t.seq.rowSub = .closing) ∧
    gives (exec (.holdReceived 5 31 0 stampNone) maint) (fun t => won 31 255 t ∧
      t.hall.maint.map MaintEntry.state = [.held] ∧ (t.portRec 31).mark = .maint 5 0 none) ∧
    gives (exec (.holdReceived 5 0 1 stampNone) (byHand .idle)) (fun t => won 0 (256 + 254) t ∧
      t.seq.state = .guarding ∧ t.manual.port = some 0 ∧ t.seq.current.any (fun d => d.port = some 0)) ∧
    gives (exec (.holdReceived 5 0 1 stampNone) (byHand .locked)) (fun t => t.seq.state = .locked ∧
      t.manual.moveWaits) ∧
    gives (exec (.holdReceived 5 0 1 stampNone) (byHand .matrixFault)) (fun t => t.manual.port = none ∧
      t.link.queue = [ready (.release 0 5)]) := by decide +kernel

/-- R76: a maintenance claim for port 22, on the curtain of 22 and 23, is kept off by a suspect mark, by a hold and a
better intent of bay 7 and by an own MAINT mark of the other port; a defect flag and a worse intent do not. -/
theorem test_maintenance_availability :
    let marked (p : Nat) (m : Mark) : State := idle.setPort p (fun r => { r with mark := m })
    (idle.setPoint 22 (fun x => { x with defect := some .stray })).maintAvailable 22 7 = true ∧
    (idle.setPort 22 (fun r => { r with suspect := some (7, 1) })).maintAvailable 22 7 = false ∧
    (marked 23 (.held 7 2 none)).maintAvailable 22 7 = false ∧ (marked 24 (.held 7 2 none)).maintAvailable 22 7 = true ∧
    (marked 22 (.intended 7 0 6 0)).maintAvailable 22 7 = false ∧
    (marked 22 (.intended 7 0 8 0)).maintAvailable 22 7 = true ∧
    (marked 23 (.maint 5 0 none)).maintAvailable 22 7 = false := by decide

theorem witness_MaintHoldIsTestedInOrder :
    let listed (l : List Nat) : State := { idle with hall := { idle.hall with
      maint := l.map (fun p => { port := p, start := 0, state := .held, claim := Claim.fresh, releasing := false }) } }
    let other : State := idle.setPort 22 (fun r => { r with mark := .held 7 2 none })
    gives (exec (.maintHold 32) idle) (fun t => result t = some .badArgument) ∧
    gives (exec (.maintHold 31) { idle with seq := { idle.seq with state := .configFault } })
      (fun t => result t = some .wrongState) ∧
    gives (exec (.maintHold 22) { idle with start := { idle.start with step := .rollCall } })
      (fun t => result t = some .busy) ∧
    gives (exec (.maintHold 22) (listed [22])) (fun t => result t = some .wrongState) ∧
    gives (exec (.maintHold 9) (joined idle)) (fun t => result t = some .wrongState) ∧
    gives (exec (.maintHold 22) (listed [0, 2, 4, 6])) (fun t => result t = some .full) ∧
    gives (exec (.maintHold 22) idle) (fun t => t.link.queue = [ready (.intent 22 0 830433600)]) ∧
    gives (exec (.maintHold 22) other) (fun t => t.hall.maint.map MaintEntry.state = [.waiting]) := by
  decide +kernel

theorem witness_ReleasesAndClearsAreOfferedOnCommand :
    let m (st : MaintState) : MaintEntry := { port := 22, start := 0, state := st, claim := Claim.fresh, releasing := false }
    let listed (st : MaintState) : State := { idle with hall := { idle.hall with maint := [m st] } }
    let taken : State := idle.setPort 8 (fun r => { r with mark := .held 7 2 none })
    let silent : State := taken.setPeer 7 (fun r => { r with presence := .silent })
    let early : State := { idle with start := { idle.start with step := .startUpRead } }
    early.mayOffer = false ∧ idle.mayOffer = true ∧
    gives (exec (.clearSuspect 31) idle) (fun t => t.link.queue = [ready (.clear 31)]) ∧
    gives (exec (.clearSuspect 8) early) (fun t => result t = some .busy) ∧
    gives (exec (.maintRelease 32) idle) (fun t => result t = some .badArgument) ∧
    gives (exec (.maintRelease 22) idle) (fun t => result t = some .notFound) ∧
    gives (exec (.maintRelease 22) (listed .held)) (fun t => t.link.queue = [ready (.release 22 5)]) ∧
    gives (exec (.maintRelease 22) (listed .waiting)) (fun t => t.hall.maint = []) ∧
    gives (exec (.forceRelease 8) idle) (fun t => result t = some .notFound) ∧
    gives (exec (.forceRelease 8) (joined idle)) (fun t => result t = some .wrongState) ∧
    gives (exec (.forceRelease 8) taken) (fun t => result t = some .notStale) ∧
    gives (exec (.forceRelease 8) silent) (fun t => t.link.queue = [ready (.release 8 7)]) := by decide +kernel

theorem witness_DroppedClaimsAreMadeAgain :
    let c : Claim := { Claim.fresh with begun := true, rescanAt := some 100 }
    let m : MaintEntry := { port := 22, start := 7, state := .claiming, claim := c, releasing := false }
    let s : State := { idle with hall := { idle.hall with maint := [m], manualClaim := some ⟨10, 2, 9, c⟩ } }
    let early : State := { s with time := { s.time with elapsed := 99 } }
    let held (p : Nat) : MaintEntry := { m with port := p, state := .held, claim := Claim.fresh }
    let two : State := { s with hall := { s.hall with maint := [held 0, m, held 30] } }
    let gone : State := s.setPort 10 (fun r => { r with suspect := some (7, 1) })
    s.maintAvailable 22 7 = true ∧ s.available 10 2 9 none = true ∧ gone.available 10 2 9 none = false ∧
    gives (exec .maintClaimRetry s) (fun t => t.link.queue = [ready (.intent 22 0 7)]) ∧
    gives (exec .maintClaimRetry early) (fun t => t.link.queue = []) ∧
    gives (exec .maintClaimRetry two) (fun t => t.link.queue = [ready (.intent 22 0 7)] ∧
      t.hall.maint.map MaintEntry.port = [0, 22, 30]) ∧
    gives (exec .maintClaimRetry (s.setPort 23 (fun r => { r with mark := .held 7 2 (some 9) })))
      (fun t => t.hall.maint.map MaintEntry.state = [.waiting] ∧ t.sup.reports = [⟨830433600, .claimWait, 22, 9⟩]) ∧
    gives (exec .manualIntentReoffer s) (fun t => t.link.queue = [ready (.intent 10 2 9)]) ∧
    gives (exec .manualIntentReoffer gone) (fun t => t.hall.manualClaim = none ∧
      t.sup.reports = [⟨830433600, .claimLost, 10, 2 * 256 + 7⟩]) := by decide +kernel

theorem witness_AConflictPausesRfAndLocksOutAfterTenSeconds :
    let s : State := { air with hall := { air.hall with
      conflicts := [⟨7, 9, 8⟩], conflictSince := 90 } }
    let doubtful : State := { (joined idle).setPort 8 (fun r =>
      { r with mark := .held 5 2 none, standing := some .unconfirmed }) with
        seq := { idle.seq with state := .heldIdle } }
    (air.portRec 8).standing = some .confirmed ∧ air.seq.state = .onAir ∧ air.seq.permit = true ∧
    (actConflict 7 9 8 air).seq.state = .paused ∧ air.conflictDue = false ∧ s.conflictDue = true ∧
    s.prot.lockout = none ∧ s.started = true ∧
    statedPorts { blankPresence with held := 9 } = [9] ∧ (∀ o, o < 32 → air.ownTaken o = true → o = 8) ∧
    gives (exec (.presenceReceived 7 { blankPresence with held := 9 }) air) (fun t => t.seq.state = .paused ∧
      !t.seq.permit ∧ t.hall.conflicts = [⟨7, 9, 8⟩] ∧ t.hall.conflictSince = 100) ∧
    gives (exec (.presenceReceived 6 { blankPresence with held := 9 }) s) (fun t =>
      t.hall.conflicts = [⟨7, 9, 8⟩, ⟨6, 9, 8⟩] ∧ t.hall.conflictSince = 90) ∧
    gives (exec (.releaseReceived 7 9 7) { s with hall := { s.hall with conflicts := [⟨7, 9, 8⟩, ⟨6, 9, 8⟩] } })
      (fun t => t.hall.conflicts = [⟨6, 9, 8⟩]) ∧
    (actConflict 7 9 8 doubtful).seq.state = .guarding ∧ (actConflict 7 9 8 doubtful).hall.yielding = [8] ∧
    (actConflict 7 9 8 doubtful).sup.reports = [⟨830433600, .yielded, 8, 7⟩] ∧
    gives (exec .conflictTimeout s) (fun t => t.seq.state = .locked ∧ t.hall.conflicts = [] ∧
      t.sup.reports = [⟨830433600, .lockout, 8, 3 * 256⟩]) := by decide +kernel

/-! ## Chapter 6 -/

/-- Motion clearance given. -/
def cleared (s : State) : State := { s with seq := { s.seq with clearance := true } }

/-- Row motion with its timers and the reading of port 8. -/
def moving (m : Motion) (r : Reading) (s : State) : State :=
  (s.setPoint 8 (fun x => { x with reading := r, settled := false })).setRow (fun d =>
    { d with motion := m, travelTimer := some 6000, settleTimer := some 6000 })

theorem witness_RowCommandsObeyTheInterlock :
    let free := cleared idle
    let mine := free.setPort 8 (fun r => { r with mark := .held 5 2 none, lastEcho := .hold })
    let flagged := mine.setPoint 8 (fun x => { x with defect := some .closeFail })
    let other := mine.setPoint 3 (fun x => { x with reading := .travel })
    let shut := cleared (joined idle)
    idle.seq.clearance = false ∧ (rowCommand (.openPort 8) idle).1.row.waiting = some (.openPort 8) ∧
    free.rowFree = true ∧ free.row.motion = .still ∧ free.row.recoveryOf = none ∧
    (rowCommand (.closePort 8) (free.setSeq (fun q => { q with state := .matrixFault }))).2 = [.refused 8 .fault] ∧
    (rowCommand (.closePort 8) flagged).2 = [.refused 8 .defective] ∧
    (rowCommand (.closePort 8) free).2 = [.refused 8 .notHeld] ∧
    mine.ownHeld 8 = true ∧ (rowCommand (.closePort 8) other).2 = [.refused 8 .rowNotOpen, .rowFault] ∧
    (rowCommand (.closePort 8) mine).1.row.motion = .closing 8 ∧
    (rowCommand (.closePort 8) shut).2 = [.closed 8] ∧ (rowCommand (.openPort 8) free).2 = [.opened 8] ∧
    (rowCommand (.openPort 8) shut).1.row.motion = .opening 8 ∧
    (tryStart (idle.setRow (fun d => { d with waiting := some (.closePort 8), recoveryOf := some 3 }))).2 = [] ∧
    (tryStart (mine.setRow (fun d => { d with waiting := some (.closePort 8) }))).1.row.motion = .closing 8 ∧
    (tryStart (free.setRow (fun d => { d with waiting := some (.closePort 8) }))).2 = [.refused 8 .notHeld] ∧
    (tryStart (other.setRow (fun d => { d with recoveryOf := some 3, waiting := some (.closePort 8) }))).1.row.motion
      = .opening 3 ∧
    (tryStart (free.setRow (fun d => { d with recoveryOf := some 3 }))).2.head? = some (.closeFailed 3) := by
  decide +kernel

theorem witness_ContactsAndRowTimersEndPulses :
    let closing := moving (.closing 8) .travel (cleared idle)
    let opening := moving (.opening 8) .travel (cleared idle)
    let settling := moving (.settling 8) .atClosed idle
    let busy := moving (.opening 8) .travel idle
    let besides := (moving (.closing 8) .travel (cleared idle))
    gives (exec (.contactReadingChange 3 true false) idle) (fun t => t.row.motion = .still ∧
      (t.point 3).lastSample = some .atOpen ∧ (t.point 3).reading = .atOpen ∧ t.seq = idle.seq) ∧
    gives (exec (.contactReadingChange 3 false false) besides) (fun t => t.seq.state = .matrixFault ∧
      t.row.motion = .closing 8 ∧ t.row.travelTimer = some 6000 ∧ t.row.barred ∧ (t.point 3).defect = some .stray) ∧
    gives (exec .travelTimerExpiry (besides.setRow (fun d => { d with barred := true }))) (fun t =>
      t.row.motion = .still ∧ t.row.recoveryOf = none ∧ (t.point 8).defect = some .closeFail ∧
      t.seq.state = .matrixFault) ∧
    gives (exec .travelTimerExpiry (besides.setSeq (fun q => { q with state := .matrixFault }))) (fun t =>
      t.row.motion = .still ∧ t.row.recoveryOf = none ∧ (t.point 8).defect = some .closeFail ∧
      t.seq.state = .matrixFault ∧ t.sup.reports =
        [⟨830433600, .crosspointFault, 8, readingCode .atOpen * 256 + readingCode .travel⟩]) ∧
    gives (exec (.contactReadingChange 3 false true) { idle with seq := { idle.seq with state := .configFault } })
      (fun t => t.seq.state = .configFault ∧ t.sup.reports =
        [⟨830433600, .crosspointFault, 3, 3 * 65536 + readingCode .atOpen * 256 + readingCode .atClosed⟩]) ∧
    gives (exec (.contactReadingChange 8 false true) closing) (fun t =>
      t.row.motion = .settling 8 ∧ t.row.settleTimer = some (5000 + t.cfg.tSettle)) ∧
    gives (exec (.contactReadingChange 8 true false) (joined idle)) (fun t =>
      t.seq.state = .matrixFault ∧ (t.point 8).defect = some .stray) ∧
    gives (exec .travelTimerExpiry opening) (fun t =>
      t.seq.state = .matrixFault ∧ (t.point 8).defect = some .openFail ∧ t.time.osc = 6000) ∧
    closing.rowFree = true ∧
    gives (exec .travelTimerExpiry closing) (fun t =>
      t.row.motion = .opening 8 ∧ t.row.recoveryMark ∧ (t.point 8).defect = some .closeFail) ∧
    gives (exec .settleTimerExpiry settling) (fun t => t.row.motion = .still ∧ (t.point 8).settled) ∧
    gives (exec (.clearDefect 32) idle) (fun t => result t = some .badArgument) ∧
    gives (exec (.clearDefect 8) busy) (fun t => result t = some .busy) ∧
    gives (exec (.clearDefect 8) (idle.setPoint 8 (fun x => { x with defect := some .stray })))
      (fun t => result t = some .done ∧ (t.point 8).defect = none) := by decide +kernel

/-- Port 8 held by bay 5, its crosspoint open. -/
def heldOpen : State := (joined idle).setPoint 8 (fun x => { x with reading := .atOpen, settled := false })

/-- The tune sub-state TUNED at 9410 kHz. -/
def tuned (s : State) : State := { s with seq := { s.seq with tuneSub := .tuned, tuneFreq := some 9410 } }

/-- A conflict, which pauses RF. -/
def conflicting (s : State) : State := { s with hall := { s.hall with conflicts := [⟨7, 9, 8⟩] } }

/-- R112 to R114, R127, R130: how an OPENING pulse and a settle end. -/
theorem witness_OpeningPulsesAndSettlesEnd :
    let opening := moving (.opening 8) .travel heldOpen
    let recovering := (opening.setRow (fun r => { r with recoveryMark := true })).setSeq (fun q =>
      { q with current := some current })
    let settling := moving (.settling 8) .atClosed (cleared heldOpen)
    let goal (c : Option Current) := moving (.settling 8) .atClosed (tuned (reposition c (joined idle)))
    let barred := settling.setRow (fun r => { r with barred := true })
    (goal (some current)).rowFree = true ∧ settling.rowFree = true ∧ opening.mayOffer = true ∧
    gives (exec (.contactReadingChange 8 true false) opening) (fun t => t.row.motion = .still ∧
      (t.point 8).rest = .atOpen ∧ t.link.queue = [ready (.release 8 5)]) ∧
    gives (exec (.contactReadingChange 8 true false) recovering) (fun t => !t.row.recoveryMark ∧
      t.link.queue.any (fun e => e.frame = .release 8 5) ∧ t.seq.current.any (fun c => c.port = none)) ∧
    gives (exec (.contactReadingChange 8 false false) settling) (fun t => t.row.motion = .opening 8 ∧
      t.row.recoveryMark ∧ (t.point 8).defect = some .closeFail ∧ t.sup.reports =
        [⟨830433600, .crosspointFault, 8, 65536 + readingCode .atClosed * 256 + readingCode .travel⟩]) ∧
    gives (exec (.contactReadingChange 8 false false) (moving (.settling 8) .atClosed heldOpen)) (fun t =>
      t.row.motion = .still ∧ t.row.recoveryOf = some 8) ∧
    gives (exec (.contactReadingChange 8 true false) settling) (fun t => t.row.motion = .still ∧
      t.row.recoveryOf = none ∧ (t.point 8).rest = .atOpen) ∧
    gives (exec (.contactReadingChange 8 false false) barred) (fun t => t.row.motion = .still ∧
      t.seq.state = .matrixFault ∧ (t.point 8).rest = .travel) ∧
    gives (exec .settleTimerExpiry (goal (some current))) (fun t => t.seq.state = .ramping ∧ t.seq.permit ∧
      t.prot.demand = 0 ∧ t.seq.stepTimer = some (6000 + t.cfg.tStep)) ∧
    gives (exec .settleTimerExpiry (conflicting (goal (some current)))) (fun t => t.seq.state = .paused) ∧
    gives (exec .settleTimerExpiry ((goal (some current)).setSeq (fun q => { q with tuneSub := .tuning })))
      (fun t => t.seq.state = .reposition ∧ t.seq.rowSub = .still) ∧
    gives (exec .settleTimerExpiry (goal none)) (fun t => t.row.motion = .opening 8 ∧
      t.seq.leftPort = some 8) := by decide +kernel

/-- R50, R180: in the interval a close failure of the manual port discards the next record, and its INTENT goes. -/
theorem test_a_lost_manual_port_discards_the_next_record :
    let s := moving (.opening 8) .travel heldOpen
    let asked : Assignment := { record with
      chosen := some 10, claim := { Claim.fresh with begun := true, state := .queued } }
    gives (exec (.contactReadingChange 8 true false) { s with
        row := { s.row with recoveryMark := true }, plan := { floor := 0, next := some asked },
        link := { s.link with queue := [ready (.intent 10 2 830433700)] },
        manual := { flag := false, port := some 8, cls := 2, freq := none, power := none, programme := 0,
                    rfOn := true, tuned := none, atNext := true },
        seq := { s.seq with state := .locked, current := some { current with
          source := .manual, claim := Claim.fresh } } })
      (fun t => t.plan.next = none ∧ t.manual.port = none ∧ t.link.queue = [ready (.release 8 5)] ∧
        t.seq.current.any (fun c => c.port = none ∧ c.segEnd = none)) := by decide +kernel

/-- R178: a closing pulse that outlasts LOCKED with the manual assignment cleared fails, and the port setting goes. -/
theorem test_a_lost_port_setting_goes :
    let s := moving (.opening 8) .travel heldOpen
    gives (exec (.contactReadingChange 8 true false) { s with
        row := { s.row with recoveryMark := true },
        manual := { Manual.initial with flag := true, port := some 8 } })
      (fun t => t.manual.port = none ∧ t.link.queue = [ready (.release 8 5)]) := by decide +kernel

/-! ## Chapter 7 -/

/-- The air state at a step of MUTING, from a demand of 2000 at 5000 ms. -/
def muting (j : Nat) : State :=
  { air with seq := { air.seq with state := .muting, muteFrom := 5000, muteDemand := 2000, muteStep := j } }

theorem witness_MutingStepsDownAndEntersGuard :
    (muting 0).seq.permit = true ∧ air.seq.state ≠ .muting ∧
    gives (exec .muteStepTimer (muting 0)) (fun t => t.prot.demand = 1600 ∧ t.time.osc = 5100) ∧
    gives (exec .muteStepTimer (muting 3)) (fun t => t.prot.demand = 400 ∧ t.seq.permit) ∧
    gives (exec .muteStepTimer (muting 4)) (fun t => t.seq.state = .guarding ∧ !t.seq.permit ∧
      t.prot.demand = 0 ∧ t.seq.watch = some 5500 ∧ t.seq.guardTimer = none) ∧
    gives (exec .muteStepTimer { muting 4 with inputs := idle.inputs }) (fun t =>
      t.seq.rfOff = some 5500 ∧ t.seq.guardTimer = some (5500 + t.cfg.tGuard)) := by decide +kernel

/-- GUARD with its timer running, nothing closed, and perhaps an assignment. -/
def guarding (c : Option Current) : State :=
  { idle with seq := { idle.seq with state := .guarding, guardTimer := some 5200, current := c } }

theorem witness_TheGuardTimerGivesMotionClearance :
    let c : Current := { current with claim := Claim.fresh, port := none, onAirStamp := none, onAirCount := none }
    let wait : State := { idle with seq := { idle.seq with clearWait := some 5200 } }
    let recovering (s : State) : State := { s with row := { s.row with recoveryMark := true } }
    (guarding none).closedPorts = [] ∧ c.freq = some 9410 ∧ c.source ≠ .manual ∧ c.claim.state ≠ .won ∧
    gives (exec .guardTimerExpiry (guarding none)) (fun t =>
      t.seq.state = .idle ∧ t.seq.clearance ∧ t.time.osc = 5200) ∧
    gives (exec .guardTimerExpiry (guarding (some c))) (fun t => t.seq.state = .reposition ∧
      t.seq.rowSub = .waitPort ∧ t.seq.tuneRequest ∧ t.seq.tuneFreq = some 9410) ∧
    gives (exec .guardTimerExpiry (moving (.opening 8) .travel (guarding none))) (fun t =>
      t.seq.state = .reposition ∧ t.seq.rowSub = .opening) ∧
    gives (exec .guardTimerExpiry (moving (.closing 8) .travel (guarding (some c)))) (fun t =>
      t.seq.rowSub = .closing) ∧
    gives (exec .guardTimerExpiry (recovering (moving (.opening 8) .travel (guarding (some c))))) (fun t =>
      t.seq.rowSub = .closing) ∧
    gives (exec .clearanceWaitExpiry wait) (fun t => t.seq.clearance ∧ t.seq.clearWait = none) := by
  decide +kernel

/-- R126, R127: a closed port that is not the chosen one is opened, the settled port closed, and what their answers
lead to; 31 is the last port. -/
theorem witness_TheStepsAndAnswersOfReposition :
    let c : Current := { current with onAirStamp := none, onAirCount := none }
    let free : Current := { c with claim := Claim.fresh, port := none }
    let timed (c : Option Current) (s : State) : State :=
      { s with seq := { s.seq with state := .guarding, guardTimer := some 5200, current := c } }
    let shut := heldOpen.setPoint 31 (fun x => { x with reading := .atClosed })
    let held (s : State) : State := latched (lineWith false true false .auto) .active s
    let left (c : Option Current) : State :=
      let s := reposition c heldOpen
      ((s.setPoint 31 (fun x => { x with reading := .travel })).setRow (fun r =>
        { r with motion := .opening 31, travelTimer := some 6000 })).setSeq (fun q => { q with leftPort := some 31 })
    let failed := (moving (.opening 8) .travel (reposition (some c) heldOpen)).setRow (fun r =>
      { r with recoveryMark := true })
    let freed (p : Nat) (t : State) : Bool := t.link.queue.any (fun e => decide (e.frame = .release p 5))
    heldOpen.mayClose 8 = true ∧ (held heldOpen).motionHold = true ∧ heldOpen.motionHold = false ∧
    gives (exec .guardTimerExpiry (timed (some c) shut)) (fun t => t.row.motion = .opening 31 ∧
      t.seq.leftPort = some 31 ∧ t.seq.rowSub = .opening) ∧
    gives (exec .guardTimerExpiry (timed none (held shut))) (fun t => t.row.motion = .still ∧
      t.row.waiting = some (.openPort 31) ∧ t.seq.rowSub = .opening) ∧
    gives (exec .guardTimerExpiry (timed (some c) heldOpen)) (fun t => t.row.motion = .closing 8 ∧
      t.seq.rowSub = .closing) ∧
    gives (exec .guardTimerExpiry (timed (some c) (held heldOpen))) (fun t =>
      t.row.waiting = some (.closePort 8)) ∧
    gives (exec (.contactReadingChange 31 true false) (left none)) (fun t => t.seq.state = .idle ∧ freed 31 t ∧
      t.seq.leftPort = none) ∧
    gives (exec (.contactReadingChange 31 true false) (left (some free))) (fun t => freed 31 t ∧
      t.seq.rowSub = .waitPort) ∧
    gives (exec (.contactReadingChange 31 true false) (left (some c))) (fun t => freed 31 t ∧
      t.row.motion = .closing 8) ∧
    gives (exec (.contactReadingChange 8 true false) failed) (fun t => freed 8 t ∧
      t.seq.rowSub = .waitPort ∧ t.seq.current.any (fun d => d.port = none ∧ d.claim.state ≠ .won)) := by
  decide +kernel

theorem witness_RfPresentIsWatched :
    let lit (s : State) : State := { s with inputs := { s.inputs with rfPresent := true } }
    let watched : State := { lit idle with seq := { idle.seq with watch := some 5000, watchOnRise := true } }
    idle.inputs.rfPresent = false ∧ idle.seq.watch = none ∧ air.prot.lockout = none ∧
    gives (exec .rfPresentFall watched) (fun t => t.seq.rfOff = some 5000 ∧
      t.seq.clearWait = some (5000 + t.cfg.tGuard)) ∧
    gives (exec .rfPresentFall { watched with seq := { watched.seq with state := .guarding } })
      (fun t => t.seq.guardTimer = some (5000 + t.cfg.tGuard)) ∧
    gives (exec .rfPresentFall air) (fun t => !t.seq.permit ∧ t.prot.trips.map Trip.cause = [.txDrop] ∧
      t.seq.state = .restartHold) ∧
    gives (exec .rfPresentFall { air with prot := { air.prot with txDropArmed := false } })
      (fun t => t.seq.permit ∧ !t.inputs.rfPresent) ∧
    gives (exec .rfPresentRise (cleared idle)) (fun t => !t.seq.clearance ∧ t.seq.watch = some 5000) ∧
    gives (exec .rfPresentRise { air with inputs := idle.inputs }) (fun t => t.seq.permit) ∧
    gives (exec .muteFail { watched with inputs := idle.inputs }) (fun t => t.seq.state = .idle ∧
      t.prot.lockout = none ∧ t.seq.watch = none) ∧
    gives (exec .rfPresentFall { air with prot := { air.prot with txDropArmed := false },
                                          seq := { air.seq with watch := some 4000 } })
      (fun t => t.seq.permit ∧ t.seq.watch = none ∧ t.seq.rfOff = some 5000) ∧
    gives (exec .muteFail watched) (fun t => t.seq.state = .locked ∧
      t.prot.lockout.map Lockout.cause = some .muteFail ∧ t.time.osc = 5000 + t.cfg.tRfoff) := by
  decide +kernel

theorem witness_TuneRequestsAreRetriedOnce :
    let asked (n : Nat) : State := { idle with seq := { idle.seq with
      tuneRequest := true, tuneSub := .tuning, tuneFreq := some 9410, tuneAttempt := n, tuneTimer := some 6000,
      current := some { current with claim := Claim.fresh, port := none }, state := .guarding } }
    (asked 1).seq.state ≠ .reposition ∧
    gives (exec .tuneDone (asked 1)) (fun t => t.seq.tuneSub = .tuned ∧ !t.seq.tuneRequest) ∧
    gives (exec .tuneDone idle) (fun t => t.seq = idle.seq ∧ t.inputs.tuneDone) ∧
    gives (exec .tuneTimerExpiry (asked 1)) (fun t => t.seq.tuneAttempt = 2 ∧ t.seq.tuneRequest ∧
      t.seq.tuneTimer = some (6000 + t.cfg.tTune)) ∧
    gives (exec .tuneTimerExpiry (asked 2)) (fun t => t.seq.current = none ∧ !t.seq.tuneRequest) ∧
    gives (exec .tuneLoss { air with seq := { air.seq with state := .muting } }) (fun t =>
      t.seq.state = .muting ∧ !t.seq.permit ∧ t.prot.demand = 0 ∧ t.seq.tuneSub = .idle) ∧
    gives (exec .tuneLoss air) (fun t => t.seq.state = .guarding ∧ !t.seq.permit ∧ t.prot.trips = []) := by
  decide +kernel

/-- RAMPING at a step count. -/
def ramping (k : Nat) : State :=
  { air with seq := { air.seq with state := .ramping, stepCount := k, stepTimer := some 5100,
                                   current := some { current with onAirStamp := none, onAirCount := none } } }

/-- R128 to R130, R176: a tune done and a loss of tune in REPOSITION, and the TUNE_FAIL reports. -/
theorem witness_TunesEndRepositionOrFail :
    let asked (c : Current) (s : State) : State := { s with seq := { s.seq with
      state := .reposition, clearance := true, permit := false, current := some c, tuneRequest := true,
      tuneSub := .tuning, tuneFreq := some 9410, tuneAttempt := 2, tuneTimer := some 6000 } }
    let byHand : State := { asked manualCurrent (joined idle) with manual := settings }
    let lost := { tuned (reposition (some current) (joined idle)) with
      inputs := { idle.inputs with tuneDone := true } }
    let failed (t : State) (n d : Nat) := decide (t.sup.reports = [⟨830433600, .tuneFail, n, d⟩])
    (asked current (joined idle)).portReady current = true ∧ (joined idle).closedPorts = [8] ∧
    byHand.rowMet manualCurrent = true ∧ byHand.heldPort = some 8 ∧
    gives (exec .tuneDone (asked current (joined idle))) (fun t => t.seq.state = .ramping ∧ t.seq.permit ∧
      t.seq.stepCount = 0 ∧ t.prot.demand = 0 ∧ t.seq.programme = 4 ∧ t.prot.sampleDue = some 5010) ∧
    gives (exec .tuneDone (conflicting (asked current (joined idle)))) (fun t => t.seq.state = .paused ∧
      !t.seq.permit) ∧
    gives (exec .tuneDone (moving (.closing 8) .travel (asked current idle))) (fun t =>
      t.seq.state = .reposition ∧ t.seq.tuneSub = .tuned) ∧
    gives (exec .tuneTimerExpiry (asked current (joined idle))) (fun t => failed t 3 9410 ∧
      t.seq.current = none) ∧
    gives (exec .tuneTimerExpiry byHand) (fun t => failed t 254 9410 ∧ t.seq.current = none ∧
      t.seq.state = .heldIdle ∧ !t.manual.rfOn ∧ t.manual.tuned = none) ∧
    gives (exec .tuneTimerExpiry (byHand.setSeq (fun q => { q with state := .guarding }))) (fun t =>
      failed t 254 9410 ∧ t.seq.current.isSome ∧ !t.manual.rfOn) ∧
    gives (exec .tuneLoss air) (fun t => failed t 3 (65536 + 9410)) ∧
    gives (exec .tuneLoss lost) (fun t => t.seq.state = .reposition ∧ t.seq.tuneSub = .tuning ∧
      t.seq.tuneAttempt = 1 ∧ t.seq.tuneRequest ∧ t.sup.reports = []) := by decide +kernel

/-- R138: a tune request that outlasts LOCKED with no current assignment is retried and fails as any other. -/
theorem test_a_tune_outlasts_its_assignment :
    let s (n : Nat) : State := { idle with seq := { idle.seq with
      tuneRequest := true, tuneSub := .tuning, tuneFreq := some 9410, tuneAttempt := n, tuneTimer := some 6000 } }
    gives (exec .tuneTimerExpiry (s 1)) (fun t => t.seq.tuneAttempt = 2 ∧ t.seq.tuneRequest) ∧
    gives (exec .tuneTimerExpiry (s 2)) (fun t => !t.seq.tuneRequest ∧
      t.sup.reports = [⟨830433600, .tuneFail, 254, 9410⟩]) := by decide +kernel

theorem witness_TheRampClimbsToOnAir :
    let held : State := { off .restartHold with seq := { (off .restartHold).seq with holdEnd := some 100 } }
    let inhibited : State := { held with hall := { held.hall with conflicts := [⟨7, 9, 8⟩] } }
    let untuned : State := { held with seq := { held.seq with tuneSub := .idle } }
    let cold : State := { ramping 0 with prot := { (ramping 0).prot with txDropArmed := false }, inputs := idle.inputs }
    current.claim.state = .won ∧ held.reached held.seq.holdEnd = true ∧ held.rfInhibit = false ∧
    inhibited.rfInhibit = true ∧ held.portReady current = true ∧ held.inputs.arc = false ∧
    gives (exec .rampStep (ramping 3)) (fun t => t.prot.demand = 800 ∧ t.seq.state = .ramping) ∧
    gives (exec .rampStep (ramping 9)) (fun t => t.prot.demand = 2000 ∧ t.seq.state = .onAir ∧
      t.sup.reports = [⟨830433600, .entryLate, 3, 600⟩]) ∧
    tripReady cold ∧ cold.prot.txDropArmed = false ∧ cold.inputs.rfPresent = false ∧
    gives (exec .rampStep cold) (fun t => t.seq.state = .restartHold ∧
      t.prot.trips.map Trip.cause = [.txDrop]) ∧
    gives (exec .restartHoldEnd inhibited) (fun t => t.seq.state = .paused) ∧
    gives (exec .restartHoldEnd held) (fun t => t.seq.state = .ramping ∧ t.seq.permit ∧ t.prot.demand = 0) ∧
    gives (exec .restartHoldEnd untuned) (fun t => t.seq.state = .guarding) := by
  unfold tripReady
  decide +kernel

theorem witness_RecordsAreTakenAndSegmentsEnd :
    let due := planned (fun a => { a with changeoverStart := 830433600 })
    let next : Assignment := { record with segStart := 830433600, changeoverStart := 830433600, programme := 6,
                                           chained := true, keepsPort := true }
    let ended : State := { air with seq := { air.seq with current := some { current with segEnd := some 830433600 } } }
    let cont : State := { ended with plan := { floor := 0, next := some next } }
    due.startDue = true ∧ cont.startDue = true ∧ ended.endDue = true ∧ (planned id).startDue = false ∧
    air.endDue = false ∧ ended.plan.next = none ∧
    gives (exec .changeoverStart due) (fun t => t.seq.state = .guarding ∧
      t.seq.current.any (fun c => c.segStart = 830433700)) ∧
    gives (exec .changeoverStart { ended with plan := { floor := 0, next := some { next with chained := false } } })
      (fun t => t.seq.programme = 4 ∧ t.plan.next.isSome) ∧
    gives (exec .changeoverStart cont) (fun t => t.seq.state = .onAir ∧ t.seq.permit ∧ t.seq.programme = 6) ∧
    gives (exec .segmentEnd ended) (fun t => t.seq.state = .muting ∧ t.seq.muteDemand = 2000 ∧
      t.sup.reports = [⟨830433600, .entryEnded, 3, 40⟩]) := by decide +kernel

/-! ## Chapter 8 -/

theorem test_built_in_is_sound : paramsSound Params.builtIn := by
  simp [paramsSound, Params.builtIn]

/-- Sound parameters, a code below the sense floor, one at it, and each side of S_w and S_t. -/
theorem witness_ReflectionIsGradedByTheTwoCodes : paramsSound Params.builtIn ∧
    (sampleOf Params.builtIn 63 10).counted = false ∧ (sampleOf Params.builtIn 64 10).counted = true ∧
    (sampleOf Params.builtIn 3000 600).f = 1000 ∧ (sampleOf Params.builtIn 3000 660).f = 880 ∧
    (sampleOf Params.builtIn 3000 1010).f = 250 :=
  ⟨test_built_in_is_sound, by decide⟩

/-- The air state with earlier trips and a first sample at or above S_t. -/
def tripping (n : Nat) : State :=
  { air with prot := { air.prot with
      pairFlag := true, trips := List.replicate n { elapsed := 90, stamp := 830433590, cause := .arc, port := some 8 } } }

theorem test_trip_ready : tripReady (tripping 0) ∧ tripReady (tripping 2) := by
  unfold tripReady; decide

/-- Vf = 3000 with Vr = 1010 is at S_t, with 750 it folds back to 1360, with 420 it is neutral. -/
theorem witness_ASampleSetsTheFoldbackLimitOrTrips :
    let folded : State := { air with prot := { air.prot with foldback := true, limit := 1000, lowest := 900 } }
    gives (exec (.couplerSample 3000#12 1010#12) (off .paused)) (fun t => t = off .paused) ∧
    gives (exec (.couplerSample 3000#12 1010#12) air) (fun t => t.prot.pairFlag ∧ t.seq.permit ∧
      t.prot.limit = 500) ∧
    gives (exec (.couplerSample 3000#12 750#12) air) (fun t => t.prot.limit = 1360 ∧ t.prot.demand = 1360 ∧
      t.sup.reports = [⟨830433600, .foldbackOn, 8, 166 * 65536 + 680⟩]) ∧
    gives (exec (.couplerSample 3000#12 750#12) folded) (fun t => t.prot.limit = 1000 ∧
      t.prot.ceiling = some 1360 ∧ t.prot.recoveryTimer = some (5010 + t.cfg.tStep)) ∧
    gives (exec (.couplerSample 3000#12 1010#12) (tripping 0)) (fun t => t.prot.trips.length = 1 ∧
      t.seq.state = .restartHold ∧ t.sup.reports.map Report.kind = [.foldbackOn, .trip]) := by decide +kernel

theorem witness_ArcsTripAndTheTripListAges :
    let aged : State := { off .idle with prot := { (tripping 2).prot with
      demand := 0, capState := .reduced, cap := 1000,
      trips := [{ elapsed := 0, stamp := 830433500, cause := .arc, port := some 8 }] } }
    let arcing : State := { off .restartHold with inputs := { air.inputs with arc := true },
                                                  seq := { (off .restartHold).seq with holdEnd := some 100 } }
    arcing.rfInhibit = false ∧ arcing.portReady current = true ∧ arcing.prot.lockout = none ∧ arcing.started = true ∧
    gives (exec .restartHoldEnd arcing) (fun t => t.seq.state = .restartHold ∧ !t.seq.permit ∧
      t.prot.trips.map Trip.cause = [.arc] ∧ t.seq.holdEnd = some 105) ∧
    gives (exec (.arc true) idle) (fun t => t.inputs.arc ∧ t.prot = idle.prot) ∧
    gives (exec (.arc false) (tripping 1)) (fun t => t.prot.capState = .reduced ∧ t.prot.cap = 1000 ∧
      t.seq.state = .restartHold) ∧
    gives (exec (.arc false) (tripping 2)) (fun t => t.seq.state = .locked ∧
      t.prot.lockout.map Lockout.cause = some (.trips .arc) ∧ t.hall.suspects = [(8, 1)] ∧
      t.sup.reports.map Report.kind = [.lockout, .trip]) ∧
    gives (exec .tripAgeing { aged with time := { aged.time with elapsed := 59 } })
      (fun t => t.prot.trips.length = 1) ∧
    gives (exec .tripAgeing { aged with time := { aged.time with elapsed := 600 } })
      (fun t => t.prot.trips = [] ∧ t.prot.capState = .recovering) := by decide +kernel

theorem witness_RecoveryStepsRaiseTheLimitAndTheCap :
    let folded (l x : Nat) : State := { air with prot := { air.prot with
      foldback := true, limit := l, lowest := 900, ceiling := some x, recoveryTimer := some 5200 } }
    let capped (k : Nat) : State := { air with prot := { air.prot with
      capState := .recovering, cap := k, capTimer := some 5200 } }
    let proven : State := { air with prot := { air.prot with proof := some (8, 100 - 60) } }
    let marked : State := { air with hall := { air.hall with suspects := [(8, 1)] } }
    let running (s : State) : State := { s with prot := { s.prot with proof := some (8, 90) } }
    air.prot.step = 200 ∧ air.mayOffer = true ∧ air.cfg.proofTime = 60 ∧ proven.proofDue = true ∧
    gives (exec .recoveryTimerExpiry (folded 1000 1360)) (fun t => t.prot.limit = 1200 ∧ t.prot.demand = 1200) ∧
    gives (exec .recoveryTimerExpiry (folded 1300 1360)) (fun t => t.prot.limit = 1360 ∧
      t.prot.recoveryTimer = none) ∧
    gives (exec .recoveryTimerExpiry (folded 1900 2000)) (fun t => !t.prot.foldback ∧
      t.sup.reports = [⟨830433600, .foldbackOff, 8, 900⟩]) ∧
    gives (exec .capTimerExpiry (capped 1000)) (fun t => t.prot.cap = 1200 ∧ t.prot.demand = 1200) ∧
    gives (exec .capTimerExpiry (capped 1900)) (fun t => t.prot.capState = .full ∧ t.prot.cap = 2000) ∧
    gives (exec (.couplerSample 3000#12 420#12) marked) (fun t => t.prot.proof = some (8, 100)) ∧
    gives (exec (.couplerSample 3000#12 420#12) (running marked)) (fun t => t.prot.proof = some (8, 90)) ∧
    gives (exec (.couplerSample 1000#12 0#12) (running marked)) (fun t => t.prot.proof = none) ∧
    gives (exec (.couplerSample 3000#12 420#12) air) (fun t => t.prot.proof = none) ∧
    gives (exec .proofRunComplete proven) (fun t => t.link.queue = [ready (.clear 8)] ∧
      t.prot.proof = none) := by decide +kernel

theorem witness_ClearLockoutIsTestedInOrderAndResumes :
    let l := locked { idle with seq := { idle.seq with state := .locked }, manual := settings }
    let m := locked { off .locked with manual := settings,
                                       seq := { (off .locked).seq with current := some manualCurrent } }
    l.hall.yielding = [] ∧ m.ownHeld 8 = true ∧ m.hall.conflicts = [] ∧ l.closedPorts = [] ∧
    gives (exec .clearLockout idle) (fun t => result t = some .wrongState) ∧
    gives (exec .clearLockout (latched (lineWith true false false .manualRearm) .inactive (locked idle)))
      (fun t => result t = some .stillActive) ∧
    gives (exec .clearLockout { l with inputs := air.inputs }) (fun t => result t = some .stillActive) ∧
    gives (exec .clearLockout (locked { idle with seq := { idle.seq with state := .matrixFault } }))
      (fun t => result t = some .done ∧ t.seq.state = .matrixFault ∧ t.prot.lockout = none) ∧
    gives (exec .clearLockout l) (fun t => result t = some .done ∧ t.seq.state = .idle) ∧
    gives (exec .clearLockout m) (fun t => t.seq.state = .ramping ∧ t.seq.permit) ∧
    gives (exec .clearLockout (locked (off .locked))) (fun t => t.seq.state = .ramping ∧ t.seq.permit ∧
      t.seq.current.any (fun c => c.port = some 8)) ∧
    gives (exec .clearLockout (locked { off .locked with seq := { (off .locked).seq with tuneSub := .idle } }))
      (fun t => t.seq.state = .guarding ∧ t.prot.trips = []) ∧
    gives (exec .clearLockout (locked { joined idle with seq := { idle.seq with state := .locked } }))
      (fun t => t.seq.state = .heldIdle ∧ t.prot.lockout = none) := by decide +kernel

/-! ## Chapter 9 -/

theorem witness_LinesDeclareAndAutoLinesClear :
    let cfg (c : LineConfig) (s : State) : State :=
      { s with start := { s.start with params := { s.start.params with lines := s.start.params.lines.put 0 c } } }
    let auto := latched (lineWith false false false .auto) .active idle
    (cfg (lineWith true false false .auto) air).sup.reports.length ≤ 30 ∧
    gives (exec (.faultLineLevelChange 0 true) { idle with start := { idle.start with step := .load } })
      (fun t => t.lines.line.get 0 = { FaultLine.initial with lastPin := some true }) ∧
    gives (exec (.faultLineLevelChange 0 true) auto) (fun t => t.lines = auto.lines) ∧
    gives (exec (.faultLineLevelChange 0 true) (latched (lineWith true false false .auto) .inactive air))
      (fun t => (t.lines.line.get 0).filtered = .active ∧ (t.lines.line.get 0).count = 4) ∧
    gives (exec (.faultLineLevelChange 0 true) (cfg (lineWith true false false .auto) air))
      (fun t => t.seq.state = .paused ∧ !t.seq.permit ∧ (t.lines.line.get 0).count = 1 ∧
        t.sup.reports = [⟨830433600, .faultLine, 0, 9 * 65536 + 1⟩]) ∧
    gives (exec (.faultLineLevelChange 0 true) (cfg (lineWith false false true .auto) air))
      (fun t => t.seq.state = .locked ∧ t.prot.lockout.map Lockout.cause = some (.faultLine 0)) ∧
    gives (exec (.faultLineLevelChange 0 false) auto) (fun t => !(t.lines.line.get 0).latched ∧
      t.sup.reports = [⟨830433600, .faultLine, 0, 16777216 + 8 * 65536 + 4⟩]) ∧
    gives (exec (.faultLineLevelChange 0 false) (latched (lineWith false false false .manualRearm) .active idle))
      (fun t => (t.lines.line.get 0).latched) := by decide +kernel

/-- A bay paused by line 0 alone, ready to radiate again. -/
def muted (m : ClearMode) : State := latched (lineWith true false false m) .active (off .paused)

/-- A bay whose waiting row command line 0 alone holds back. -/
def heldBack (m : ClearMode) (c : RowCommand) : State :=
  latched (lineWith false true false m) .active
    (((cleared idle).setPort 8 (fun r => { r with mark := .held 5 2 none, lastEcho := .hold })).setRow
      (fun d => { d with waiting := some c }))

theorem witness_LastActionsLift :
    lastAction LineConfig.mute 0 (muted .auto) ∧ pausedWith current (muted .auto) ∧
    (muted .auto).portReady current = true ∧ lastAction LineConfig.holdMotion 0 (heldBack .auto (.closePort 8)) ∧
    onlyHeldBack (heldBack .auto (.closePort 8)) ∧
    gives (exec (.faultLineLevelChange 0 false) (muted .auto)) (fun t => t.seq.state = .ramping ∧ t.seq.permit) ∧
    gives (exec (.clearFaultLine 0) (muted .manualRearm)) (fun t => t.seq.state = .ramping ∧ t.seq.permit) ∧
    gives (exec (.clearFaultLine 0) ((muted .manualRearm).setSeq (fun q => { q with tuneSub := .idle })))
      (fun t => t.seq.state = .guarding) ∧
    gives (exec (.faultLineLevelChange 0 false) (heldBack .auto (.closePort 8))) (fun t =>
      t.row.motion = .closing 8 ∧ t.row.waiting = none) ∧
    gives (exec (.clearFaultLine 0) ((heldBack .manualRearm (.openPort 8)).setPoint 8 (fun x =>
      { x with reading := .atClosed }))) (fun t => t.row.motion = .opening 8 ∧ t.row.waiting = none) := by
  unfold lastAction pausedWith onlyHeldBack
  decide +kernel

theorem witness_ClearFaultLineActsByTheClearMode :
    let on (m : ClearMode) (l : Filtered) := latched (lineWith false false false m) l idle
    gives (exec (.clearFaultLine 4) idle) (fun t => result t = some .badArgument) ∧
    gives (exec (.clearFaultLine 3) idle) (fun t => result t = some .done) ∧
    gives (exec (.clearFaultLine 0) (on .auto .inactive)) (fun t => result t = some .stillActive) ∧
    gives (exec (.clearFaultLine 0) (on .manualLevel .active)) (fun t => result t = some .stillActive) ∧
    gives (exec (.clearFaultLine 0) (on .manualLevel .inactive)) (fun t => !(t.lines.line.get 0).latched) ∧
    gives (exec (.clearFaultLine 0) (on .manualRearm .active)) (fun t => (t.lines.line.get 0).waitInactive ∧
      !(t.lines.line.get 0).latched) := by decide +kernel

/-! ## Chapter 10 -/

/-- The bay in the interval of R180 with the RF order OFF, whose next record keeps port 8 and has asked for its
refreshed HOLD; the queue holds that HOLD until its echo has won the claim. -/
def interval (won : Bool) : State :=
  let claim : Claim := { Claim.fresh with begun := true, state := if won then .won else .unclaimed, refreshAsked := !won }
  let kept : Assignment := { record with segStart := 830435000, keepsPort := true, chained := true, claim := claim }
  { air with
    manual := { settings with flag := false, rfOn := false, atNext := true }
    seq := { air.seq with current := some { manualCurrent with segEnd := some 830434985, release := some 830437300 } }
    plan := { floor := 0, next := some kept }
    link := { air.link with queue := if won then [] else
      [{ ready (.hold 8 2 830437300) with refresh := true, asked := true }] } }

theorem witness_ManualEnterTakesOverTheBay :
    let taken : State := { (joined idle) with seq := { idle.seq with state := .heldIdle } }
    let free := taken.setPort 8 (fun r => { r with mark := .held 5 2 none })
    let unsettled : State := { guarding (some { current with claim := Claim.fresh, port := none, onAirStamp := none, onAirCount := none }) with manual := Manual.initial }
    let unsettledIn (q : SeqState) : State := { air with seq := { air.seq with
      state := q, permit := decide (q = .onAir),
      current := some { current with claim := { Claim.fresh with begun := true }, port := none } } }
    free.heldPort = some 8 ∧ idle.heldPort = none ∧ air.mayOffer = true ∧ air.ownHeld 8 = true ∧
    gives (exec .manualEnter { idle with manual := settings }) (fun t => result t = some .wrongState) ∧
    gives (exec .manualEnter idle) (fun t => t.manual = { Manual.initial with flag := true }) ∧
    gives (exec .manualEnter free) (fun t => t.manual = { Manual.initial with flag := true, port := some 8 }) ∧
    gives (exec .manualEnter air) (fun t => t.manual = settings ∧ t.seq.permit ∧
      t.link.queue.map TxEntry.frame = [.hold 8 2 stampNone] ∧
      t.sup.reports = [⟨830433600, .entryEnded, 3, 40⟩]) ∧
    gives (exec .manualEnter unsettled) (fun t => t.seq.current = none ∧ t.seq.state = .guarding ∧
      t.manual = { Manual.initial with flag := true }) ∧
    gives (exec .manualEnter { air with plan := { floor := 0, next := some record } }) (fun t =>
      t.plan = { floor := 830433600, next := none } ∧ t.manual = settings) ∧
    gives (exec .manualEnter (unsettledIn .onAir)) (fun t => t.seq.state = .muting ∧ t.seq.tuneSub = .idle ∧
      t.manual = { Manual.initial with flag := true }) ∧
    gives (exec .manualEnter (unsettledIn .paused)) (fun t => t.seq.state = .guarding ∧ t.seq.current = none) ∧
    (interval true).mayOffer = true ∧ (interval false).ownHeld 8 = true ∧
    gives (exec .manualEnter (interval true)) (fun t => t.plan = { floor := 830433600, next := none } ∧
      t.seq.current = some manualCurrent ∧ t.manual = { settings with rfOn := false } ∧
      t.link.queue.map TxEntry.frame = [.hold 8 2 stampNone] ∧ t.sup.reports = []) ∧
    gives (exec .manualEnter (interval false)) (fun t => t.seq.current = some manualCurrent ∧
      t.link.queue.map TxEntry.frame = [.hold 8 2 830437300, .hold 8 2 stampNone]) := by
  decide +kernel

/-- R48, R52, R93: a next record is discarded while its refreshed HOLD is on its way, and a HOLD with the end of the
current segment is offered behind that one. -/
theorem test_discarded_kept_record_restates_the_end :
    let kept : Assignment := { record with
      segStart := 830437300, segEnd := some 830440900, release := some 830440900, keepsPort := true, chained := true,
      claim := { Claim.fresh with begun := true, refreshAsked := true } }
    let s : State := { air with
      plan := { floor := 0, next := some kept }
      link := { air.link with queue := [{ ready (.hold 8 2 830440900) with refresh := true, asked := true }] } }
    (discardNext s).plan.next = none ∧
    (discardNext s).link.queue.map TxEntry.frame = [.hold 8 2 830440900, .hold 8 2 830437300] ∧
    (discardNext s).link.queue.map TxEntry.asked = [false, false] := by decide +kernel

/-- The bay under manual control with no assignment, joined to port 8. -/
def manualIdle (f : Manual → Manual) : State :=
  { (joined idle) with seq := { idle.seq with state := .heldIdle }, manual := f settings }

/-- The bay under manual control with its assignment in a state. -/
def manualAir (s : State) : State := { s with manual := settings, seq := { s.seq with current := some manualCurrent } }

theorem witness_ManualOrdersAreTestedAndHaveTheirEffects :
    let m := manualIdle (fun x => { x with rfOn := false })
    let n (q : SeqState) : State := { manualIdle id with seq := { idle.seq with state := q } }
    m.available 10 3 m.stamp m.manual.freq = true ∧ m.ownHeld 10 = false ∧ m.mayRadiate = true ∧
    gives (exec (.manualPort 32 1) m) (fun t => result t = some .badArgument) ∧
    gives (exec (.manualTune 3899) idle) (fun t => result t = some .badArgument) ∧
    gives (exec (.manualTune 3900) idle) (fun t => result t = some .wrongState) ∧
    gives (exec (.manualTune 3900) (n .muting)) (fun t => result t = some .busy) ∧
    gives (exec .manualRfOn (n .locked)) (fun t => result t = some .wrongState) ∧
    gives (exec (.manualPower 6001) m) (fun t => result t = some .badArgument) ∧
    gives (exec (.manualPower 6000) idle) (fun t => result t = some .wrongState) ∧
    gives (exec .manualRfOff idle) (fun t => result t = some .wrongState) ∧
    gives (exec (.manualPort 10 3) (m.setPort 10 (fun r => { r with suspect := some (7, 1) })))
      (fun t => result t = some .wrongState) ∧
    gives (exec (.manualPort 10 3) { m with start := { m.start with step := .rollCall } })
      (fun t => result t = some .busy) ∧
    gives (exec (.manualPort 8 3) m) (fun t => t.manual.cls = 3 ∧ t.hall.manualClaim = none ∧
      t.link.queue = [{ ready (.hold 8 3 stampNone) with refresh := true }]) ∧
    gives (exec (.manualPort 8 3) (manualIdle (fun x => { x with rfOn := false, port := none }))) (fun t =>
      t.hall.manualClaim.any (fun c => c.port = 8 ∧ c.claim.refreshAsked) ∧
      t.link.queue = [{ ready (.hold 8 3 stampNone) with refresh := true, asked := true }]) ∧
    gives (exec (.manualPort 8 3) (manualAir air)) (fun t => t.seq.state = .onAir ∧
      t.seq.current.any (fun c => c.cls = 3 ∧ c.port = some 8) ∧ t.hall.manualClaim = none ∧
      t.link.queue = [{ ready (.hold 8 3 stampNone) with refresh := true }]) ∧
    gives (exec (.manualPort 10 3) m) (fun t => t.manual.cls = 3 ∧ t.hall.manualClaim.any (fun c => c.port = 10) ∧
      t.link.queue = [ready (.intent 10 3 830433600)]) ∧
    gives (exec (.manualTune 9410) m) (fun t => t.seq.state = .heldIdle ∧ result t = some .done) ∧
    gives (exec (.manualTune 9500) m) (fun t => t.seq.state = .guarding ∧ t.manual.freq = some 9500) ∧
    gives (exec (.manualTune 9500) { m with start := { m.start with step := .load } }) (fun t =>
      t.seq.state = .heldIdle ∧ t.seq.current.any (fun c => c.freq = some 9500)) ∧
    gives (exec (.manualPower 500) m) (fun t => t.manual.power = some 500) ∧
    gives (exec (.manualPower 500) (manualAir (off .paused))) (fun t => t.prot.target = 500) ∧
    gives (exec .manualRfOn { m with manual := { m.manual with tuned := none } })
      (fun t => result t = some .wrongState) ∧
    gives (exec .manualRfOn m) (fun t => t.seq.state = .guarding ∧ t.manual.rfOn) ∧
    gives (exec .manualRfOn (manualIdle id)) (fun t => t.seq.state = .heldIdle ∧ result t = some .done) ∧
    gives (exec .manualRfOff (manualAir air)) (fun t => t.seq.state = .muting ∧ t.seq.muteDemand = 2000) ∧
    gives (exec .manualRfOff (manualAir (off .paused))) (fun t => t.seq.state = .guarding) ∧
    gives (exec .manualRfOff (n .locked)) (fun t => !t.manual.rfOn ∧ t.seq.state = .locked) ∧
    gives (exec (.manualPower 500) (manualAir air)) (fun t => t.seq.state = .onAir ∧ t.prot.target = 500 ∧
      t.seq.stepCount = 10 ∧ t.prot.demand = 500) ∧
    gives (exec (.manualPower 4000) (manualAir air)) (fun t => t.seq.state = .onAir ∧ t.prot.target = 2500 ∧
      t.seq.stepCount = 8 ∧ t.prot.demand = 2000) ∧
    gives (exec (.manualTune 9500) (manualAir air)) (fun t => t.seq.state = .muting ∧ t.manual.freq = some 9500 ∧
      t.seq.current.any (fun c => c.freq = some 9500)) ∧
    gives (exec .manualRfOff (moving (.closing 8) .travel (manualAir (off .reposition)))) (fun t =>
      !t.manual.rfOn ∧ t.seq.state = .reposition ∧ t.row.motion = .closing 8) := by decide +kernel

theorem witness_ManualExitGivesTheBayBack :
    let unset' (s : State) : State := { s with time := { s.time with quality := .unset } }
    let fault : State := (idle.setPoint 8 (fun x => { x with reading := .travel }))
    let faulty : State := { fault with seq := { fault.seq with state := .matrixFault } }
    let stuck (s : State) : State := { s.setPoint 8 (fun x => { x with reading := .atClosed, rest := .atClosed })
      with seq := { s.seq with state := .matrixFault } }
    let noon : BankEntry :=
      { days := 0x20, marks := [], body := { body with startMin := 700, duration := 60, ports := [9, 4] } }
    let bank := (Table.fill 96 (none : BankSlot)).put 7 (some noon)
    let soon := (Table.fill 96 (none : BankSlot)).put 7 (some { noon with body := { noon.body with startMin := 721 } })
    faulty.rowCheck = .inconsistent 0 8 ∧
    gives (exec .manualExitNow idle) (fun t => result t = some .wrongState) ∧
    gives (exec .manualExitAtNext faulty) (fun t => result t = some .wrongState) ∧
    gives (exec .manualExitNow (unset' (manualIdle id))) (fun t => t.manual = Manual.initial ∧
      result t = some .done) ∧
    gives (exec .manualExitAtNext (unset' (manualAir air))) (fun t => !t.manual.flag ∧ t.seq.state = .onAir) ∧
    gives (exec .manualExitNow (unset' (manualAir air))) (fun t => t.seq.state = .muting ∧
      t.seq.current = none ∧ t.manual = Manual.initial) ∧
    gives (exec .manualExitNow { idle with seq := { idle.seq with state := .matrixFault } }) (fun t =>
      t.seq.state = .idle ∧ result t = some .done) ∧
    (stuck idle).rowCheck = .consistent (some 8) ∧
    gives (exec .manualExitAtNext (stuck idle)) (fun t => t.seq.state = .heldIdle ∧
      (t.portRec 8).mark = .held 5 3 none ∧ (t.portRec 8).standing = some .unconfirmed ∧ (t.point 8).settled) ∧
    gives (exec .manualExitNow (locked (stuck idle))) (fun t => t.seq.state = .locked) ∧
    gives (exec .manualExitNow { manualAir air with store := { air.store with bank0 := bank } }) (fun t => t.seq.state = .muting ∧
      t.manual = Manual.initial ∧ t.seq.current.any (fun c => c.source = .entry 7 9611 ∧ c.segStart = 830432400)) ∧
    gives (exec .manualExitNow { manualAir air with store := { air.store with bank0 := soon } }) (fun t =>
      t.seq.state = .muting ∧ t.manual = Manual.initial ∧ t.seq.current = none ∧
      t.plan.next.any (fun a => a.segStart = 830433660)) := by
  decide +kernel

/-! ## Chapter 11 -/

theorem witness_TransactionsReadBackTheCommand :
    (Instr.setTime 9611 43200).wellFormed = true ∧
    encodeCommand (.setTime 9611 43200) = some [1, 0x25, 0x8B, 0, 0, 0xA8, 0xC0] ∧
    encodeCommand (.setTime 9611 43200) = some ([1, 0x25] ++ [0x8B, 0, 0, 0xA8, 0xC0]) ∧
    encodeCommand .internalSecond = none := by decide

theorem witness_CommandsAreAnsweredUnderTheirNumber :
    hostNumber .readReport = some 30 ∧ hostNumber .restart = none ∧ touchesResponse .internalSecond = false ∧
    gives (exec .readReport idle) (fun t => t.sup.sequence = 1 ∧ t.sup.response.number = 30) ∧
    (let busy (c : Instr) := gives (exec c { idle with sup := { idle.sup with
         nvmPending := some { address := 0, write := none, count := 1, sequence := 9, deadline := 5020 } } })
       (fun t => result t = some .busy)
     busy .readReport ∧ busy (.writeEntry 0 1 body) ∧ busy (.maintHold 99) ∧ !busy .readStatus) ∧
    gives (exec (.unknownCommand 99 [1]) idle) (fun t => t.sup.sequence = 1 ∧ result t = some .badArgument) ∧
    gives (exec .transactionCutShort idle) (fun t => t = idle) ∧
    gives (exec (.readEntry (.active 95)) idle) (fun t => t.responseBytes = [1, 4, 0, 0, 1, 0]) ∧
    gives (exec (.nvmWrite 0 [1]) idle) (fun t => t.responseBytes = [1, 35, 10, 0, 0]) := by decide +kernel

theorem witness_ReportsFlagsEnablesAndLampsFollowTheirCommands :
    let filed : State := { idle with sup := { idle.sup with reports := [⟨0x01020304, .noPort, 7, 0x0A0B0C0D⟩],
                                                            sticky := ⟨true, true, true, true⟩ } }
    let full : State := { idle with
      sup := { idle.sup with reports := List.replicate 32 ⟨0, .noPort, 7, 0⟩ },
      time := { idle.time with silence := some 7500 }, manual := settings,
      seq := { idle.seq with state := .locked } }
    gives (exec .silenceTimerExpiry full) (fun t => t.sup.reports.length = 32 ∧ t.sup.sticky = ⟨true, false, false, false⟩ ∧
      t.holdoverFlag ∧ t.conditionCode = 13) ∧
    full.conditionCode = 9 ∧ idle.conditionCode = 0 ∧
    gives (exec .readReport filed) (fun t => t.sup.reports = [] ∧
      t.sup.response.data = [1, 2, 3, 4, 10, 7, 0x0A, 0x0B, 0x0C, 0x0D]) ∧
    gives (exec .readReport idle) (fun t => t.sup.response.data.length = 10) ∧
    gives (exec (.clearFlags 5) filed) (fun t => t.sup.sticky = ⟨false, true, false, true⟩) ∧
    gives (exec (.setEnables 16) filed) (fun t => t.interrupt) ∧
    gives (exec (.setEnables 16) idle) (fun t => !t.interrupt) ∧
    gives (exec (.setEnables 2) filed) (fun t => t.interrupt) ∧
    idle.lampLit 0 = false ∧ air.lampLit 0 = true ∧ (locked idle).lampLit 2 = true ∧ idle.lampLit 3 = true ∧
    ({ idle with time := { idle.time with osc := 5125 } } : State).lampLit 3 = false ∧
    ({ idle with start := { idle.start with step := .load } } : State).lampLit 3 = false ∧
    gives (exec (.setLamp 0 0 0 1) idle) (fun t => t.lampLit 0) ∧
    gives (exec (.setLamp 3 10 2 1) idle) (fun t => result t = some .done) ∧
    gives (exec (.setLamp 4 0 0 0) idle) (fun t => result t = some .badArgument) ∧
    gives (exec (.setLamp 0 11 0 0) idle) (fun t => result t = some .badArgument) := by decide +kernel

/-- An NVM command that writes two bytes. -/
def nvmPending (w : Option (List Byte)) : State :=
  let k : NvmCommand := { address := 0x10, write := w, count := 2, sequence := 9, deadline := 5020 }
  { idle with nvm := [(0x11, 7)], sup := { idle.sup with nvmPending := some k } }

theorem witness_NvmCommandsPassThroughAndComplete :
    nvmCanonical idle ∧ nvmCanonical (nvmPending none) ∧
    gives (exec (.nvmWrite 4095 [1, 2]) idle) (fun t => result t = some .badArgument) ∧
    gives (exec (.nvmWrite 4094 [1, 2]) idle) (fun t => result t = some .pending ∧
      t.sup.nvmPending.any (fun k => k.deadline = 5020)) ∧
    gives (exec (.nvmRead 0 17) idle) (fun t => result t = some .badArgument) ∧
    gives (exec (.nvmRead 0 16) (nvmPending none)) (fun t => result t = some .busy) ∧
    gives (exec .nvmCommandComplete (nvmPending (some [1, 0]))) (fun t => t.nvm = [(0x10, 1)] ∧
      t.sup.response = { sequence := 9, number := 35, result := some .done, data := [] }) ∧
    gives (exec .nvmCommandComplete (nvmPending none)) (fun t => t.sup.response.data = [0, 7]) ∧
    gives (exec .nvmAckTimeout (nvmPending none)) (fun t => t.nvm = [(0x11, 7)] ∧
      result t = some .notFound ∧ t.time.osc = 5020) := by
  refine ⟨by unfold nvmCanonical; decide, by unfold nvmCanonical; decide, ?_⟩
  decide +kernel

theorem witness_EveryResetLeavesItsValues :
    let shut : State := { air with inputs := { air.inputs with contacts := air.inputs.contacts.put 8 (false, true) } }
    gives (exec .powerOn shut) (fun t => t.seq.state = .idle ∧ t.stamp = 0 ∧ (t.point 8).reading = .atClosed ∧
      (t.point 9).reading = .atOpen ∧
      t.sup.reports = [⟨0, .restarted, 0, 0⟩]) ∧
    gives (exec .restart (nvmPending none)) (fun t => result t = some .busy) ∧
    gives (exec .restart (pendingIs .checking (summer 30))) (fun t =>
      t.sup.reports = [⟨830433600, .restarted, 0, 3⟩, ⟨830433600, .bankCheckDone, 0, 3 * 65536⟩] ∧
      t.store.lastCheck = .notDone ∧ t.stamp = 830433600) := by decide +kernel

/-- The part in its load, with a configuration block of the defaults, a table of rows that differ from
the built-in one and the check word
(131, 16: CRC-16/CCITT-FALSE of the 272 bytes, worked out apart from the model). -/
def loading : State :=
  let block : List Byte :=
    [9, 196, 15, 60, 101, 244, 1, 244, 0, 200, 11, 184, 0, 100, 46, 224, 0, 200, 7, 208, 30, 0, 120, 0, 60, 0, 64,
     1, 119, 0, 150, 0, 200, 0, 250, 5, 0, 60, 0, 60, 165, 165, 165, 165, 0, 17, 4, 41] ++
    (List.range 32).flatMap (fun _ => [0, 16, 0, 16, 0, 1, 0])
  { State.reset with nvm := ((block ++ [131, 16]).mapIdx Prod.mk).filter (fun c => c.2 ≠ 0) }

/-- The load gives the values of the block where they lie in their range. -/
theorem witness_ABlockLoads :
    gives (exec (.configLoadEnd true) loading) (fun t => t.cfg.claimMargin = 30 ∧ t.start.outcome = some .loaded) := by
  decide +kernel

/-- The load clamps the values of a block of zeros, which holds its check word alone. -/
theorem witness_AnEmptyBlockClamps :
    gives (exec (.configLoadEnd true) { State.reset with nvm := Memory.writeAll 272 (crcBytes (List.replicate 272 0)) [] })
      (fun t => t.start.outcome = some .clamped ∧ t.cfg.claimMargin = 10 ∧ t.cfg.rating = 1 ∧ t.seq.state = .idle) := by
  decide +kernel

/-- R139, R143, R172: what the start state makes of a manual assignment formed before it, with the loaded rating. -/
theorem witness_AManualAssignmentMeetsTheStartState :
    let empty := Memory.writeAll 272 (crcBytes (List.replicate 272 0)) []
    let s : State := { State.reset with
      nvm := empty, manual := { Manual.initial with flag := true },
      seq := { State.reset.seq with
        current := some { manualCurrent with onAirStamp := none, onAirCount := none } } }
    gives (exec (.configLoadEnd true) s) (fun t => t.seq.state = .guarding ∧ t.prot.target = 1 ∧
      t.seq.current.any (fun c => c.power = 1)) ∧
    gives (exec (.configLoadEnd true) (s.setPoint 8 (fun x => { x with reading := .travel }))) (fun t =>
      t.seq.state = .idle ∧ t.seq.current.any (fun c => c.power = 1)) ∧
    gives (exec (.configLoadEnd true) (s.setPoint 8 (fun x => { x with reading := .conflict }))) (fun t =>
      t.seq.state = .matrixFault ∧ !t.seq.tuneRequest) ∧
    gives (exec (.configLoadEnd false) s) (fun t => t.seq.state = .configFault ∧ t.seq.current = none ∧
      t.prot.target = t.cfg.rating ∧ t.manual.flag) := by decide +kernel

/-- A blank NVM does not load: its check word is not that of 272 zero bytes. -/
theorem witness_TheStartSequenceLoadsReadsAndCalls :
    let load : State := State.reset
    let mid := load.setPoint 8 (fun x => { x with reading := .travel })
    let read : State := { mid with start := { mid.start with step := .startUpRead, rereadAt := some 5000 },
                                   row := { mid.row with firstReadings := some (mid.row.points.mapIdx (fun _ x => x.reading)) } }
    let call : State := { idle with start := { idle.start with step := .rollCall, windowEnd := some 6000 },
                                    time := { idle.time with quality := .unset } }
    gives (exec (.configLoadEnd false) load) (fun t => t.seq.state = .configFault ∧
      t.start.step = .rollCall ∧ t.sup.sticky.configFaultSeen) ∧
    gives (exec (.configLoadEnd true) load) (fun t => t.start.outcome = some .configFault) ∧
    gives (exec (.configLoadEnd true) mid) (fun t => t.start.step = .startUpRead) ∧
    gives (exec .startUpReread read) (fun t => (t.point 8).defect = some .start ∧ t.start.step = .rollCall ∧
      t.time.osc = 5000) ∧
    gives (exec .rollCallWindowEnd call) (fun t => t.start.step = .done ∧ t.time.osc = 6000) := by decide +kernel

/-! ## The part as a whole -/

theorem witness_StepRunsTheFrontCommand :
    gives (step { idle with pending := [.internalSecond] }) (fun t => t.pending = [] ∧ t.stamp = 830433601) := by
  decide

/-- R108, R164: with nothing due the lines' sample that is due comes before the contacts', and either changes what it
agrees with the sample before on; a timer reached runs first. Line 0 is active low and its pin is low, line 3's is
high. -/
theorem witness_AnEmptyQueueRunsWhatIsDueAndSamples :
    let pins := idle.lines.line.mapIdx (fun i x => { x with lastPin := some (decide (i = 3)) })
    let points := idle.row.points.mapIdx (fun _ x => { x with lastSample := some .atClosed })
    let s (due row : Nat) : State := { idle with
      lines := { idle.lines with sampleDue := due, line := pins }
      row := { idle.row with sampleDue := row, points := points }
      inputs := { idle.inputs with
        linePins := idle.inputs.linePins.mapIdx (fun i _ => decide (i = 3))
        contacts := idle.inputs.contacts.put 31 (false, true) } }
    let late : State := { s 5000 5000 with row := { (s 5000 5000).row with travelTimer := some 5000 } }
    idle.pending = [] ∧ dueCommand (s 5000 5000) = none ∧ dueCommand late = some .travelTimerExpiry ∧
    gives (step (s 5000 5000)) (fun t => t.lines.sampleDue = 5010 ∧ (t.faultLine 0).filtered = .active ∧
      (t.faultLine 3).filtered = .inactive ∧ t.row.sampleDue = 5000 ∧ t.time = idle.time) ∧
    gives (step (s 5001 5000)) (fun t => t.row.sampleDue = 5005 ∧ (t.point 31).reading = .atClosed ∧
      (t.point 0).reading = .atOpen ∧ (t.point 0).lastSample = some .atOpen ∧ t.lines.sampleDue = 5001) ∧
    gives (step (s 5001 5001)) (fun t => t.time.osc = 5001 ∧ t.row.sampleDue = 5001) := by decide +kernel

theorem witness_EveryStepKeepsPowerReportsQueueAndNvmInBounds : noPowerWithoutPermit air ∧ reportsFit air ∧ nvmCanonical air ∧ queueFits air := by
  refine ⟨?_, ?_, ?_, ?_⟩
  · unfold noPowerWithoutPermit; decide
  · unfold reportsFit; decide
  · unfold nvmCanonical; decide
  · unfold queueFits; decide

/-- Entry 1: with nothing waiting and nothing due one ms passes; a fault-line sample that is due is taken first. -/
theorem test_empty_queue_is_a_tick :
    let quiet : State := { idle with lines := { idle.lines with sampleDue := 5010 },
                                     row := { idle.row with sampleDue := 5005 },
                                     time := { idle.time with phaseZero := 4500 } }
    dueCommand quiet = none ∧ gives (step quiet) (fun t => t.time.osc = 5001 ∧ t.pending = []) := by
  decide +kernel

theorem test_no_word_spells_a_command : decodeTableWord 8 1 = none ∧ idle.withFetchWord 8 1 = idle := by
  decide +kernel

end Sys2Proof.Tests
end

section
/-! WRITE_ENTRY (O7): what an edit of the pending bank changes, and which arguments it accepts. -/

namespace Sys2Proof.Machine

/-! ## Writing the pending bank (R17, R18) -/

@[simp] theorem distinctPorts_iff_nodup (l : List Nat) : distinctPorts l = true ↔ l.Nodup := by
  induction l with
  | nil => simp [distinctPorts]
  | cons p rest ih => simp [distinctPorts, ih]

theorem entryInRange_iff_fieldsInRange (c : Params) (b : EntryBody) :
    entryInRange c b = true ↔ fieldsInRange c b := by
  simp [entryInRange, fieldsInRange, and_assoc]

theorem daysInRange_iff (days : Byte) :
    daysInRange days = true ↔ days ≠ 0 ∧ days.getLsbD 7 = false := by
  simp [daysInRange]

@[simp] theorem pendingBank_setPending (st : ScheduleStore) (b : Bank) :
    (st.setPending b).pendingBank = b := by
  unfold ScheduleStore.setPending ScheduleStore.pendingBank
  split <;> simp [*]

/-- R17: the store in role ACTIVE, the roles and every record beside the banks stay. -/
theorem setPending_frame (st : ScheduleStore) (b : Bank) :
    (st.setPending b).activeBank = st.activeBank ∧
      st.setPending b =
        { st with bank0 := (st.setPending b).bank0, bank1 := (st.setPending b).bank1 } := by
  unfold ScheduleStore.setPending ScheduleStore.activeBank
  split <;> simp [*]

theorem pendingBank_putSlot_same (slot : Nat) (e : BankSlot) (s : State) (inBank : slot < 96) :
    (putSlot slot e s).store.pendingBank.get slot = e := by
  simp [putSlot, State.setStore, inBank]

theorem pendingBank_putSlot_other (slot j : Nat) (e : BankSlot) (s : State) (other : j ≠ slot) :
    (putSlot slot e s).store.pendingBank.get j = s.store.pendingBank.get j := by
  simp [putSlot, State.setStore, other.symm]

theorem putSlot_frame (slot : Nat) (e : BankSlot) (s : State) :
    (putSlot slot e s).store.activeBank = s.store.activeBank ∧
      (putSlot slot e s).store =
        { s.store with bank0 := (putSlot slot e s).store.bank0
                       bank1 := (putSlot slot e s).store.bank1 } :=
  setPending_frame s.store (s.store.pendingBank.put slot e)

theorem editing_checking (s : State) (f : State → Decision) (h : s.store.pendingState = .checking) :
    editing s f = deny .busy s := by simp [editing, h]

theorem editing_armed (s : State) (f : State → Decision) (h : s.store.pendingState = .armed) :
    editing s f = deny .armed s := by simp [editing, h]

theorem editing_editable (s : State) (f : State → Decision) (h : s.store.pendingState = .editable) :
    editing s f = f s := by simp [editing, h]

/-- R181: a command that its rule denies only answers. -/
theorem answered_deny (n : Nat) (f : State → Decision) (r : Result) (s : State)
    (free : s.sup.nvmPending = none) (h : f s = deny r s) : answered n f s = onlyAnswers n r [] s := by
  rw [answered_free n f s free, h]
  rfl

theorem answered_grant (n : Nat) (f : State → Decision) (s t : State)
    (free : s.sup.nvmPending = none) (h : f s = grant t) : answered n f s = onlyAnswers n .done [] t := by
  rw [answered_free n f s free, h]
  rfl

theorem exec_writeEntry (slot : Nat) (days : Byte) (b : EntryBody) (s : State) :
    exec (.writeEntry slot days b) s = .next (answered 3 (writeSlot slot days b) s) := rfl

/-- R18: the slot that an accepted WRITE_ENTRY leaves. -/
def writtenSlot (days : Byte) (b : EntryBody) : BankSlot :=
  some { days := days, body := b, marks := b.ports.map (fun _ => .unchecked) }

theorem writeSlot_accepted (slot : Nat) (days : Byte) (b : EntryBody) (s : State)
    (editable : s.store.pendingState = .editable) (inBank : slot ≤ 95) (nonempty : days ≠ 0)
    (spare : days.getLsbD 7 = false) (fields : fieldsInRange s.cfg b) :
    writeSlot slot days b s = grant (putSlot slot (writtenSlot days b) s) := by
  have accepted : slot ≤ 95 ∧ daysInRange days = true ∧ entryInRange s.cfg b = true :=
    ⟨inBank, (daysInRange_iff days).2 ⟨nonempty, spare⟩, (entryInRange_iff_fieldsInRange s.cfg b).2 fields⟩
  rw [writeSlot, editing_editable s _ editable, if_pos accepted, writtenSlot]

theorem writeSlot_badArgument (slot : Nat) (days : Byte) (b : EntryBody) (s : State)
    (editable : s.store.pendingState = .editable)
    (bad : slot > 95 ∨ days = 0 ∨ ¬ fieldsInRange s.cfg b) :
    writeSlot slot days b s = deny .badArgument s := by
  have refused : ¬ (slot ≤ 95 ∧ daysInRange days = true ∧ entryInRange s.cfg b = true) := by
    rw [daysInRange_iff, entryInRange_iff_fieldsInRange]
    rintro ⟨inBank, ⟨nonempty, -⟩, fields⟩
    rcases bad with pastEnd | empty | outside
    · omega
    · exact nonempty empty
    · exact outside fields
  rw [writeSlot, editing_editable s _ editable, if_neg refused]

/-- Settles O7: by the pending state, then by the arguments. -/
theorem writeEntryChangesOneSlotOfThePendingBank :
    Obligations.WriteEntryChangesOneSlotOfThePendingBank := by
  intro s slot days b free
  rw [exec_writeEntry]
  refine ⟨fun checking => ?_, fun armed => ?_, fun editable => ⟨fun bad => ?_, ?_⟩⟩
  · rw [answered_deny 3 _ .busy s free (editing_checking s _ checking)]
  · rw [answered_deny 3 _ .armed s free (editing_armed s _ armed)]
  · rw [answered_deny 3 _ .badArgument s free (writeSlot_badArgument slot days b s editable bad)]
  · intro inBank nonempty spare fields
    obtain ⟨active, others⟩ := putSlot_frame slot (writtenSlot days b) s
    refine ⟨(putSlot slot (writtenSlot days b) s).store, ?_,
      pendingBank_putSlot_same slot _ s (by omega),
      fun j other => pendingBank_putSlot_other slot j _ s other, active, ?_⟩
    · rw [answered_grant 3 _ s _ free
        (writeSlot_accepted slot days b s editable inBank nonempty spare fields)]
      rfl
    · rw [others]
      simp [editable]

end Sys2Proof.Machine
end

section
/-! The overlap test (O9): week minutes as spans, used slots as an increasing list, and the pair met first. -/

namespace Sys2Proof.Machine

/-! ## The used slots of a bank -/

theorem mem_entries {α : Type} {n : Nat} (t : Table α n) (i : Nat) (x : α) :
    (i, x) ∈ t.entries ↔ t.toList[i]? = some x := by
  simp [Table.entries, List.mem_zipIdx_iff_getElem?]

theorem mem_usedSlots (b : Bank) (i : Nat) (e : BankEntry) :
    (i, e) ∈ usedSlots b ↔ b.get i = some e := by
  have used : (i, e) ∈ usedSlots b ↔ b.toList[i]? = some (some e) := by
    simp [usedSlots, mem_entries]
  rw [used, Table.get, List.getD_eq_getElem?_getD]
  cases b.toList[i]? with
  | none => simp [default]
  | some slot => simp

/-- A list of used slots in the order of their numbers. -/
abbrev Increasing (l : List (Nat × BankEntry)) : Prop := l.Pairwise (fun p q => p.1 < q.1)

theorem usedSlots_increasing (b : Bank) : Increasing (usedSlots b) := by
  have numbers : b.entries.map Prod.fst = List.range' 0 b.toList.length := by
    simp [Table.entries, Function.comp_def]
  have increasing : b.entries.Pairwise (fun p q => p.1 < q.1) := by
    rw [← List.pairwise_map, numbers]
    exact List.pairwise_lt_range'
  refine increasing.filterMap _ ?_
  rintro p q lt x hx y hy
  obtain ⟨_, -, rfl⟩ := Option.map_eq_some_iff.1 hx
  obtain ⟨_, -, rfl⟩ := Option.map_eq_some_iff.1 hy
  exact lt

/-! ## Spans that share a week minute (R22) -/

/-- Two spans meet when one of them begins inside the other. -/
theorem spansShare_iff (a la b lb : Nat) (ha : 1 ≤ la ∧ la ≤ 1440) (hb : 1 ≤ lb ∧ lb ≤ 1440) :
    spansShare a la b lb = true ↔
      ∃ k l, k < la ∧ l < lb ∧ (a + k) % 10080 = (b + l) % 10080 := by
  simp only [spansShare, Bool.or_eq_true, decide_eq_true_eq]
  constructor
  · rintro (inFirst | inSecond)
    · exact ⟨_, 0, inFirst, hb.1, by omega⟩
    · exact ⟨0, _, ha.1, inSecond, by omega⟩
  · rintro ⟨k, l, hk, hl, same⟩
    omega

theorem mem_spanStarts (e : BankEntry) (a : Nat) :
    a ∈ spanStarts e ↔ ∃ d < 7, e.days.getLsbD d = true ∧ a = d * 1440 + e.body.startMin := by
  simp only [spanStarts, startsOn, List.mem_map, List.mem_filter, List.mem_range]
  constructor
  · rintro ⟨d, ⟨hd, starts⟩, rfl⟩
    exact ⟨d, hd, by simpa [hd] using starts, rfl⟩
  · rintro ⟨d, hd, day, rfl⟩
    exact ⟨d, ⟨hd, by simp [hd, day]⟩, rfl⟩

theorem occupies_iff (e : BankEntry) (m : Nat) :
    occupies e m ↔ ∃ a ∈ spanStarts e, ∃ k < e.body.duration, m = (a + k) % 10080 := by
  simp only [occupies, mem_spanStarts]
  constructor
  · rintro ⟨d, k, hd, day, hk, rfl⟩
    exact ⟨_, ⟨d, hd, day, rfl⟩, k, hk, rfl⟩
  · rintro ⟨_, ⟨d, hd, day, rfl⟩, k, hk, rfl⟩
    exact ⟨d, k, hd, day, hk, rfl⟩

theorem entriesOverlap_iff (x y : BankEntry)
    (hx : 1 ≤ x.body.duration ∧ x.body.duration ≤ 1440)
    (hy : 1 ≤ y.body.duration ∧ y.body.duration ≤ 1440) :
    entriesOverlap x y = true ↔ ∃ m, occupies x m ∧ occupies y m := by
  simp only [entriesOverlap, List.any_eq_true, spansShare_iff _ _ _ _ hx hy, occupies_iff]
  constructor
  · rintro ⟨a, ha, b, hb, k, l, hk, hl, same⟩
    exact ⟨_, ⟨a, ha, k, hk, rfl⟩, b, hb, l, hl, same⟩
  · rintro ⟨_, ⟨a, ha, k, hk, rfl⟩, b, hb, l, hl, same⟩
    exact ⟨a, ha, b, hb, k, l, hk, hl, same⟩

/-! ## The pair the overlap test names (R22) -/

/-- Entries with the numbers `i` and `j` of a list of used slots overlap. -/
def overlapIn (l : List (Nat × BankEntry)) (i j : Nat) : Prop :=
  ∃ x y, (i, x) ∈ l ∧ (j, y) ∈ l ∧ entriesOverlap x y = true

/-- `(i, j)` is the pair of a relation with the lowest first number and, for that, the lowest second. -/
def isLowestPair (r : Nat → Nat → Prop) (i j : Nat) : Prop :=
  i < j ∧ r i j ∧ ∀ i' j', i' < j' → r i' j' → i < i' ∨ (i = i' ∧ j ≤ j')

theorem isLowestPair_unique {r : Nat → Nat → Prop} {i j i' j' : Nat}
    (h : isLowestPair r i j) (h' : isLowestPair r i' j') : i = i' ∧ j = j' := by
  obtain ⟨lt, rel, least⟩ := h
  obtain ⟨lt', rel', least'⟩ := h'
  have := least i' j' lt' rel'
  have := least' i j lt rel
  omega

/-- In a bank with R18's durations the used slots that overlap are those that share a week minute. -/
theorem overlapIn_usedSlots (b : Bank)
    (timed : ∀ i e, b.get i = some e → e.body.startMin ≤ 1439 ∧ 1 ≤ e.body.duration ∧
      e.body.duration ≤ 1440) :
    overlapIn (usedSlots b) = slotsShare b := by
  funext i j
  simp only [overlapIn, slotsShare, mem_usedSlots, eq_iff_iff]
  constructor
  · rintro ⟨x, y, hx, hy, meet⟩
    obtain ⟨m, mx, my⟩ := (entriesOverlap_iff x y (timed i x hx).2 (timed j y hy).2).1 meet
    exact ⟨x, y, m, hx, hy, mx, my⟩
  · rintro ⟨x, y, m, hx, hy, mx, my⟩
    exact ⟨x, y, hx, hy, (entriesOverlap_iff x y (timed i x hx).2 (timed j y hy).2).2 ⟨m, mx, my⟩⟩

section

variable {a : Nat} {x : BankEntry} {rest : List (Nat × BankEntry)}

/-- A pair of an increasing list has the head as its lower part, or lies in the tail. -/
theorem overlapIn_cons (above : ∀ q ∈ rest, a < q.1) {i j : Nat} (lt : i < j) :
    overlapIn ((a, x) :: rest) i j ↔
      (i = a ∧ ∃ y, (j, y) ∈ rest ∧ entriesOverlap x y = true) ∨ overlapIn rest i j := by
  constructor
  · rintro ⟨u, v, hu, hv, meet⟩
    rcases List.mem_cons.1 hv with headJ | tailJ
    · cases headJ
      rcases List.mem_cons.1 hu with headI | tailI
      · cases headI
        omega
      · have := above _ tailI
        omega
    · rcases List.mem_cons.1 hu with headI | tailI
      · cases headI
        exact .inl ⟨rfl, v, tailJ, meet⟩
      · exact .inr ⟨u, v, tailI, tailJ, meet⟩
  · rintro (⟨rfl, v, hv, meet⟩ | ⟨u, v, hu, hv, meet⟩)
    · exact ⟨x, v, List.mem_cons_self, List.mem_cons_of_mem _ hv, meet⟩
    · exact ⟨u, v, List.mem_cons_of_mem _ hu, List.mem_cons_of_mem _ hv, meet⟩

theorem firstOverlap_cons_some {q : Nat × BankEntry}
    (found : rest.find? (fun q => entriesOverlap x q.2) = some q) :
    firstOverlap ((a, x) :: rest) = some (a, q.1) := by simp [firstOverlap, found]

theorem firstOverlap_cons_none (found : rest.find? (fun q => entriesOverlap x q.2) = none) :
    firstOverlap ((a, x) :: rest) = firstOverlap rest := by simp [firstOverlap, found]

end

/-- In an increasing list `find?` answers the member with the lowest number. -/
theorem find?_lowest {l : List (Nat × BankEntry)} {p : Nat × BankEntry → Bool} {q r : Nat × BankEntry}
    (increasing : Increasing l) (found : l.find? p = some q) (hr : r ∈ l)
    (hp : p r = true) : q.1 ≤ r.1 := by
  obtain ⟨-, before, after, rfl, skipped⟩ := List.find?_eq_some_iff_append.1 found
  obtain ⟨-, later, -⟩ := List.pairwise_append.1 increasing
  rcases List.mem_append.1 hr with inBefore | inRest
  · exact absurd hp (by simpa using skipped r inBefore)
  · rcases List.mem_cons.1 inRest with rfl | inAfter
    · exact le_rfl
    · exact (List.rel_of_pairwise_cons later inAfter).le

/-- Along the list: the head is named with the first entry that it overlaps, and is passed over when there is none. -/
theorem firstOverlap_spec (l : List (Nat × BankEntry)) (increasing : Increasing l) :
    (firstOverlap l = none ∧ ∀ i j, i < j → ¬ overlapIn l i j) ∨
      ∃ i j, firstOverlap l = some (i, j) ∧ isLowestPair (overlapIn l) i j := by
  induction l with
  | nil => exact .inl ⟨rfl, by rintro i j - ⟨_, _, ⟨⟩, -⟩⟩
  | cons p rest ih =>
    obtain ⟨a, x⟩ := p
    obtain ⟨above, tail⟩ := List.pairwise_cons.1 increasing
    cases found : rest.find? (fun q => entriesOverlap x q.2) with
    | some q =>
      have member := List.mem_of_find?_eq_some found
      have meet := List.find?_some found
      refine .inr ⟨a, q.1, firstOverlap_cons_some found, above q member,
        (overlapIn_cons above (above q member)).2 (.inl ⟨rfl, q.2, member, meet⟩), ?_⟩
      intro i' j' lt other
      rcases (overlapIn_cons above lt).1 other with ⟨rfl, y, hy, meet'⟩ | ⟨u, _, hu, -⟩
      · exact .inr ⟨rfl, find?_lowest tail found hy meet'⟩
      · exact .inl (above _ hu)
    | none =>
      have passed : ∀ i j, i < j → (overlapIn ((a, x) :: rest) i j ↔ overlapIn rest i j) := by
        intro i j lt
        rw [overlapIn_cons above lt, or_iff_right]
        rintro ⟨-, y, hy, meet⟩
        exact List.find?_eq_none.1 found _ hy meet
      rw [firstOverlap_cons_none found]
      rcases ih tail with ⟨noneFound, apart⟩ | ⟨i, j, named, lt, rel, least⟩
      · exact .inl ⟨noneFound, fun i j lt => (passed i j lt).not.2 (apart i j lt)⟩
      · exact .inr ⟨i, j, named, lt, (passed i j lt).2 rel,
          fun i' j' lt' other => least i' j' lt' ((passed i' j' lt').1 other)⟩

/-- Settles O9: the used slots stand in increasing order, so the pair that is met first is the lowest. -/
theorem overlapTestNamesTheLowestPair : Obligations.OverlapTestNamesTheLowestPair := by
  intro b timed
  have spec := firstOverlap_spec (usedSlots b) (usedSlots_increasing b)
  rw [overlapIn_usedSlots b timed] at spec
  rcases spec with ⟨named, apart⟩ | ⟨i, j, named, lowest⟩
  · refine ⟨fun i j => ?_, iff_of_true named apart⟩
    refine iff_of_false (by simp [named]) ?_
    rintro ⟨lt, share, -⟩
    exact apart i j lt share
  · refine ⟨fun i' j' => ⟨fun same => ?_, fun lowest' => ?_⟩, iff_of_false (by simp [named]) ?_⟩
    · cases named.symm.trans same
      exact lowest
    · obtain ⟨rfl, rfl⟩ := isLowestPair_unique lowest lowest'
      exact named
    · obtain ⟨lt, share, -⟩ := lowest
      exact fun apart => apart i j lt share

end Sys2Proof.Machine
end

section
/-! The values of a coupler sample (O43): each floor of R146 and R148 with its brackets, and the ranges they give. -/

namespace Sys2Proof.Machine

/-- A floor is named by its brackets. -/
theorem floor_brackets (n : Nat) {d : Nat} (pos : 0 < d) : n / d * d ≤ n ∧ n < (n / d + 1) * d :=
  ⟨Nat.div_mul_le_self n d, (Nat.div_lt_iff_lt_mul pos).1 (Nat.lt_succ_self _)⟩

/-! ## The sense floor (R146) -/

theorem sampleOf_belowFloor {c : Params} {vf : Nat} (vr : Nat) (below : vf < c.vMin) :
    sampleOf c vf vr =
      { counted := false, vf := vf, vr := vr, rho := 0, s := 100, f := 1000, pf := pfOf c vf } :=
  if_pos below

theorem sampleOf_counted {c : Params} {vf : Nat} (vr : Nat) (atFloor : c.vMin ≤ vf) :
    sampleOf c vf vr =
      { counted := true, vf := vf, vr := vr, rho := rhoOf vf vr, s := sOf (rhoOf vf vr),
        f := fOf c (sOf (rhoOf vf vr)), pf := pfOf c vf } :=
  if_neg atFloor.not_gt

/-! ## The reflection ratio (R146) -/

theorem rhoOf_of_le {vf vr : Nat} (full : vf ≤ vr) : rhoOf vf vr = 999 :=
  if_pos full

theorem rhoOf_of_lt {vf vr : Nat} (part : vr < vf) : rhoOf vf vr = 1000 * vr / vf :=
  if_neg part.not_ge

theorem rhoOf_brackets {vf vr : Nat} (part : vr < vf) :
    rhoOf vf vr * vf ≤ 1000 * vr ∧ 1000 * vr < (rhoOf vf vr + 1) * vf := by
  rw [rhoOf_of_lt part]
  exact floor_brackets _ (Nat.zero_lt_of_lt part)

theorem rhoOf_le (vf vr : Nat) : rhoOf vf vr ≤ 999 := by
  rcases Nat.lt_or_ge vr vf with part | full
  · have below : 1000 * vr / vf < 1000 := Nat.div_lt_of_lt_mul (by omega)
    rw [rhoOf_of_lt part]
    omega
  · exact (rhoOf_of_le full).le

/-! ## S (R146) -/

theorem sOf_le (rho : Nat) : sOf rho ≤ 9999 :=
  Nat.min_le_left _ _

theorem le_sOf {rho : Nat} (range : rho ≤ 999) : 100 ≤ sOf rho :=
  le_min (by decide) ((Nat.le_div_iff_mul_le (by omega)).2 (by omega))

/-- Below the clamp S is the floor itself. -/
theorem sOf_brackets {rho : Nat} (range : rho ≤ 999) (unclamped : sOf rho < 9999) :
    sOf rho * (1000 - rho) ≤ 100 * (1000 + rho) ∧
      100 * (1000 + rho) < (sOf rho + 1) * (1000 - rho) := by
  have isFloor : sOf rho = 100 * (1000 + rho) / (1000 - rho) := by
    unfold sOf at unclamped ⊢
    omega
  rw [isFloor]
  exact floor_brackets _ (by omega)

theorem sOf_lt_clamp {rho : Nat} (range : rho ≤ 999) (small : 100 * (1000 + rho) < 9999 * (1000 - rho)) :
    sOf rho < 9999 :=
  min_lt_of_right_lt ((Nat.div_lt_iff_lt_mul (by omega)).2 small)

/-! ## The foldback fraction (R148) -/

/-- R148's formula inside the band, before F_min. -/
theorem band_fraction_lt {sW sT s : Nat} (above : sW < s) (below : s < sT) :
    1000 * (sT - s) / (sT - sW) < 1000 :=
  (Nat.div_lt_iff_lt_mul (by omega)).2 (by omega)

theorem fOf_of_le_sW {c : Params} {s : Nat} (low : s ≤ c.sW) : fOf c s = 1000 :=
  if_pos low

theorem fOf_in_band {c : Params} {s : Nat} (above : c.sW < s) (below : s < c.sT) :
    fOf c s = max c.fMin (1000 * (c.sT - s) / (c.sT - c.sW)) := by
  rw [fOf, if_neg above.not_ge, if_pos below]

theorem fOf_of_sT_le {c : Params} {s : Nat} (apart : c.sW < c.sT) (high : c.sT ≤ s) : fOf c s = c.fMin := by
  rw [fOf, if_neg (apart.trans_le high).not_ge, if_neg high.not_gt]

theorem fOf_in_band_lt {c : Params} {s : Nat} (least : c.fMin ≤ 900) (above : c.sW < s) (below : s < c.sT) :
    fOf c s < 1000 := by
  rw [fOf_in_band above below]
  exact max_lt (by omega) (band_fraction_lt above below)

theorem fOf_range {c : Params} (s : Nat) (apart : c.sW < c.sT) (least : c.fMin ≤ 900) :
    c.fMin ≤ fOf c s ∧ fOf c s ≤ 1000 := by
  rcases Nat.lt_or_ge c.sW s with above | low
  · rcases Nat.lt_or_ge s c.sT with below | high
    · refine ⟨?_, (fOf_in_band_lt least above below).le⟩
      rw [fOf_in_band above below]
      exact le_max_left _ _
    · rw [fOf_of_sT_le apart high]
      omega
  · rw [fOf_of_le_sW low]
    omega

/-! ## The sample -/

/-- What a sound configuration gives to R148: a band of S that is not empty, and an F_min below 1000. -/
theorem paramsSound_foldback {c : Params} (sound : paramsSound c) : c.sW < c.sT ∧ c.fMin ≤ 900 := by
  unfold paramsSound at sound
  omega

/-- Settles O43: by the sense floor, then R146 and R148 for a counted sample. -/
theorem reflectionIsGradedByTheTwoCodes : Obligations.ReflectionIsGradedByTheTwoCodes := by
  intro c vf vr sound _ _
  obtain ⟨apart, least⟩ := paramsSound_foldback sound
  refine ⟨fun below => ?_, fun atFloor => ?_⟩
  · rw [sampleOf_belowFloor vr below]
    exact ⟨rfl, rfl, rfl, rfl⟩
  · have range := rhoOf_le vf vr
    rw [sampleOf_counted vr atFloor]
    exact ⟨rfl, rhoOf_of_le, rhoOf_brackets, range, le_sOf range, sOf_le _, sOf_brackets range,
      sOf_lt_clamp range, fOf_of_le_sW,
      fun above below => ⟨fOf_in_band_lt least above below, fOf_in_band above below⟩,
      fOf_of_sT_le apart, fOf_range _ apart least⟩

end Sys2Proof.Machine
end
